-- ==== Sys2Proof/Word.lean ====
section
/-! DEFINITION. The word types of the block (spec/00_scope.md R9, R10): every value is unsigned. -/

namespace Sys2Proof

/-- One character or one byte of data memory (R9: "Every character is 8 bits"). -/
abbrev Byte := BitVec 8

/-- One word of the register window; also every length and counter (R9). -/
abbrev Word := BitVec 32

/-- A data address (R9: "Every data address is 32 bits"); sums of addresses wrap mod 2^32 (R65). -/
abbrev Addr := BitVec 32

/-- The callback's event mask (R42). -/
abbrev EventMask := BitVec 32

end Sys2Proof
end

