-- ==== Sys2Proof/Config.lean ====
section
/-! DEFINITION. What an implementation fixes (spec/00_scope.md R7, 10_state.md R23, R24) and the free values. The parameters
are a plain record, `Params`, which State carries and no step writes (log 1), so that a claim holds for every
construction of the block and can be run on any. -/

namespace Sys2Proof

/-- CAP, the 18 capability booleans (R24). -/
structure Cap where
  syncMaster : Bool
  syncSlave : Bool
  singleWire : Bool
  irda : Bool
  smartCard : Bool
  smartCardClock : Bool
  eventTxComplete : Bool
  eventRxTimeout : Bool
  rts : Bool
  cts : Bool
  dtr : Bool
  dsr : Bool
  dcd : Bool
  ri : Bool
  eventCts : Bool
  eventDsr : Bool
  eventDcd : Bool
  eventRi : Bool
  deriving DecidableEq, Repr, Inhabited

/-- The direction of one byte access, the `dir` of MEM_ADMITS (R7, R66). -/
inductive AccessDir where
  | read
  | write
  deriving DecidableEq, Repr, Inhabited

/-- A request to the transfer engine, the arguments of DMA_PROGRAM (R45, R75). -/
structure DmaRequest where
  chan : Nat
  src : Addr
  dst : Addr
  len : Word
  srcInc : Bool
  dstInc : Bool
  deriving DecidableEq, Repr, Inhabited

/-- A range of byte accesses the memory does not admit: direction `dir`, addresses `lo` to `hi` inclusive. -/
structure MemHole where
  dir : AccessDir
  lo : Addr
  hi : Addr
  deriving DecidableEq, Repr, Inhabited

/-- A range of requests the engine does not admit: channel and increment flags as given, addresses and length within
the bounds, inclusive. -/
structure DmaHole where
  chan : Nat
  srcLo : Addr
  srcHi : Addr
  dstLo : Addr
  dstHi : Addr
  lenLo : Word
  lenHi : Word
  srcInc : Bool
  dstInc : Bool
  deriving DecidableEq, Repr, Inhabited

/-- The construction-time parameters (R7). The three predicates are finite lists, which lose nothing (log 2). -/
structure Params where
  cap : Cap
  /-- TXDMA: the transmit channel of the transfer engine, if any -/
  txDma : Option Nat
  /-- RXDMA: the receive channel of the transfer engine, if any -/
  rxDma : Option Nat
  thrAddr : Addr
  rbrAddr : Addr
  fillAddr : Addr
  dumpAddr : Addr
  /-- TOL_PCT, default 3 -/
  tolPct : Nat
  /-- CLOCK_CFG_OK: the triples (mode, cpol, cpha) it accepts -/
  clockCfgOk : List (BitVec 3 × Bool × Bool)
  /-- MEM_ADMITS is false exactly on these ranges -/
  memHoles : List MemHole
  /-- DMA_ADMITS is false exactly on these ranges -/
  dmaHoles : List DmaHole
  /-- REG_BASE, the platform base of the register window; the block decodes offsets only -/
  regBase : Addr
  /-- RX_TRIGGER, an opaque selector that no rule reads -/
  rxTrigger : Nat
  deriving DecidableEq, Repr, Inhabited

def MemHole.covers (h : MemHole) (dir : AccessDir) (a : Addr) : Bool :=
  h.dir = dir && h.lo ≤ a && a ≤ h.hi

def DmaHole.covers (h : DmaHole) (r : DmaRequest) : Bool :=
  h.chan = r.chan && h.srcLo ≤ r.src && r.src ≤ h.srcHi && h.dstLo ≤ r.dst && r.dst ≤ h.dstHi &&
    h.lenLo ≤ r.len && r.len ≤ h.lenHi && h.srcInc = r.srcInc && h.dstInc = r.dstInc

/-- MEM_ADMITS(addr, dir) (R66). -/
def Params.memAdmits (p : Params) (dir : AccessDir) (a : Addr) : Bool :=
  p.memHoles.all fun h => !h.covers dir a

/-- DMA_ADMITS(request) (R75). -/
def Params.dmaAdmits (p : Params) (r : DmaRequest) : Bool :=
  p.dmaHoles.all fun h => !h.covers r

/-- CLOCK_CFG_OK(mode, cpol, cpha) (R7). -/
def Params.clockOk (p : Params) (mode : BitVec 3) (cpol cpha : Bool) : Bool :=
  p.clockCfgOk.contains (mode, cpol, cpha)

/-- HAS_MODEM (R25): the four modem input lines. -/
def Params.hasModem (p : Params) : Bool :=
  p.cap.cts || p.cap.dsr || p.cap.dcd || p.cap.ri

namespace Config

/-- BURST, "a fixed burst of 16 characters" (R7). -/
def burst : Nat := 16

/-- The default of TOL_PCT (R7, R127). -/
def tolPctDefault : Nat := 3

/-- The default of CLOCK_CFG_OK, "cpol = 0 and cpha = 0", on the two modes CONFIGURE asks about (R7, R144). -/
def clockCfgDefault : List (BitVec 3 × Bool × Bool) := [(1, false, false), (2, false, false)]

/-- The parameters this block is constructed with: no body, so nothing can be proved of any of them (U19, log 1). -/
opaque params : Params

/-- FREE VALUE (log 9): which of the candidate values a raced byte read returns. -/
opaque raceIndex : Nat → Nat

/-- FREE VALUE (log 9, log 22): the unknown content of an RX buffer byte accessed during its transfer. -/
opaque freeByte : Nat → Byte

end Config

end Sys2Proof
end

