-- ==== Sys2Proof/Syntax.lean ====
section
/-! DEFINITION. The instructions of the block: one constructor per row of spec/opcode_table.json. "Instruction" means a
host command or a dispatch (spec/00_scope.md R14). Commands have no operand in their word: their operands are the
argument registers (30_encoding.md R85, R89). -/

namespace Sys2Proof

inductive Instr where
  -- the commands of R87, written to CMD
  | initialise
  | uninitialize
  | powerControl
  | configure
  | setTxFill
  | send
  | receive
  | transfer
  | getTxCount
  | getRxCount
  | getStatus
  | abortSend
  | abortReceive
  | abortTransfer
  -- the interrupt-id codes of R93
  /-- IIR = xxx1; `id` is IIR[3:1], which the block does not look at when IIR[0] = 1. -/
  | irqNone (id : BitVec 3)
  | irqThre
  | irqRls
  | irqRda
  | irqCti
  | irqMs
  | irqReserved8
  | irqReservedA
  | irqReservedE
  -- the completion codes of R97
  | dmaTxOk
  | dmaRxOk
  | dmaTxError
  | dmaRxError
  deriving DecidableEq, Repr

/-- The three kinds of word the block decodes (R85). -/
inductive CodeWord where
  /-- the command word, written by the host to CMD -/
  | command (w : BitVec 32)
  /-- the interrupt-id code, the IIR input of an IRQ dispatch -/
  | iir (c : BitVec 4)
  /-- the completion code, the input of a DMA dispatch -/
  | completion (c : BitVec 2)
  deriving DecidableEq, Repr

/-- Who, besides the block, reads and writes the shared data memory (R47). -/
inductive MemAgent where
  | host
  | engine
  deriving DecidableEq, Repr

/-- One step of the environment, as R21 lists them and R98 writes them, with the inputs the environment supplies at that
step (R8, R48). The last two are no steps of the block: they are other agents' accesses to the shared memory (R47),
taken between its steps. `off` is a byte offset in the 128-byte register window (R39) and `bytes` the access's width. -/
inductive Request where
  /-- `wr`: a host write of `w`; `pclk` is PCLK_HZ at this step, which a CONFIGURE samples (R8) -/
  | hostWrite (off : BitVec 7) (bytes : Nat) (w : Word) (pclk : Word)
  /-- `rd`: a host read -/
  | hostRead (off : BitVec 7) (bytes : Nat)
  /-- `irq`: an IRQ dispatch with its four inputs -/
  | irq (iir : BitVec 4) (lsr msr : Byte) (fifo : List Byte)
  /-- `dma`: a DMA dispatch with its completion code -/
  | dma (code : BitVec 2)
  /-- `reset` -/
  | reset
  /-- another agent writes one byte of the data memory -/
  | memWrite (agent : MemAgent) (a : Addr) (v : Byte)
  /-- another agent reads one byte of the data memory -/
  | memRead (agent : MemAgent) (a : Addr)
  deriving DecidableEq, Repr

end Sys2Proof
end

