-- ==== Sys2Proof/Machine/State.lean ====
section
/-! DEFINITION. The block's state (spec/10_state.md), its reset value (R49) and the reasons a step can stop. -/

namespace Sys2Proof.Machine

/-- LC, the lifecycle state (R26). -/
inductive Lifecycle where
  | unpowered
  | initialized
  | powered
  | configured
  deriving DecidableEq, Repr

/-- TX_SRC (R33): where the characters of the TX transfer come from. -/
inductive TxSource where
  | buffer
  | fill
  deriving DecidableEq, Repr

/-- RX_DST (R34): where the characters of the RX transfer go. -/
inductive RxDest where
  | buffer
  | discard
  deriving DecidableEq, Repr

/-- SYNC_TAG, the sync-mode tag (R35). -/
inductive SyncTag where
  | none
  | txOnly
  | rxOnly
  | txAndRx
  deriving DecidableEq, Repr

/-- A side of the block (R16). -/
inductive Side where
  | tx
  | rx
  deriving DecidableEq, Repr

/-- The output actions (R45). -/
inductive Action where
  | thr (b : Byte)
  | rxRead
  | fifoReset (side : Side)
  | dmaProgram (r : DmaRequest)
  | dmaDisable (ch : Nat)
  | memRead (a : Addr)
  | memWrite (a : Addr) (b : Byte)
  | callback (mask : EventMask)
  deriving DecidableEq, Repr

/-- The result codes (60_exceptions.md R261). -/
inductive ResultCode where
  | ok
  | invalidParameter
  | notInitialized
  | notPowered
  | notConfigured
  | busy
  | unsupportedCapability
  | baudRateOutOfTolerance
  | noDivisorFound
  | invalidClockConfiguration
  | invalidState
  | illegalCommand
  deriving DecidableEq, Repr

/-- The data memory (R47, R60): (address, byte) pairs in the canonical form `Memory.wf`. -/
abbrev Memory := List Host.Cell

/-- MODEL: the addresses from `lo` up to, and without, `hi` (log 9). -/
structure Span where
  lo : Nat
  hi : Nat
  deriving DecidableEq, Repr

/-- Why the block is stuck at a step (00_scope.md R13: it has no trap). -/
inductive Fault where
  /-- Raised by a byte access of TX_BYTE (R170) or DRAIN (R224) that MEM_ADMITS rejects: "the block is stuck at that
  step, and no part of the step takes effect" (R66). SAFE: no next state is claimed (log 7). -/
  | memNotAdmitted (dir : AccessDir) (a : Addr)
  deriving DecidableEq, Repr

/-- Why a step is not taken. -/
inductive Refusal where
  /-- Raised by an arm of `exec` whose instruction has no meaning yet. SAFE. No arm raises it. -/
  | notModelled (mnemonic : String)
  /-- Raised by ARM_TX (R173) or ARM_RX (R174) when DMA_ADMITS rejects the request: the step has no step (R75). SAFE
  (log 7). -/
  | dmaNotAdmitted (r : DmaRequest)
  /-- Raised by a host access to the register window that is not an aligned 32-bit word: it is refused (R64, U3). SAFE
  (log 8). -/
  | hostAccessNotWord (off : BitVec 7) (bytes : Nat)
  /-- Raised by `step` when the environment presents no request: the block takes no step by itself (R21, R22). SAFE
  (log 8). -/
  | noStepPending
  deriving DecidableEq, Repr

/-- The state. The first group is the block's registers (R26 to R38), then the shared memory (R47), the parameters (R7),
the inputs and outputs of a step (R8, R45, R48), and the model's own fields. -/
structure State where
  lc : Lifecycle
  cbReg : Bool
  cfg : BitVec 10
  txFill : Byte
  div : BitVec 17
  mulval : BitVec 4
  divaddval : BitVec 4
  baud : Word
  sendActive : Bool
  txBuf : Addr
  txNum : Word
  txCnt : Word
  txSrc : TxSource
  rxBusy : Bool
  rxBuf : Addr
  rxNum : Word
  rxCnt : Word
  rxDst : RxDest
  syncTag : SyncTag
  rxOverflow : Bool
  rxBreak : Bool
  rxFraming : Bool
  rxParity : Bool
  ier : BitVec 4
  arg0 : Word
  arg1 : Word
  arg2 : Word
  result : BitVec 8
  rval : Word
  /-- the shared data memory (R47) -/
  mem : Memory
  /-- the construction-time parameters (R7); no step writes them (R23; log 1) -/
  params : Params
  /-- PCLK_HZ as the current command samples it (R8) -/
  pclk : Word
  /-- the LSR input of the current IRQ dispatch (R48) -/
  lsr : Byte
  /-- the MSR input of the current IRQ dispatch (R48) -/
  msr : Byte
  /-- the FIFO input of the current IRQ dispatch (R48), less what RXREAD removed (R45; log 16) -/
  fifo : List Byte
  /-- the output actions of all steps so far, in order (R12, R45; log 5) -/
  out : List Action
  /-- MODEL: the environment's requests, in the order they are taken (R67; log 3) -/
  pending : List Request
  /-- MODEL: what the last host read returned (R39; log 14) -/
  rdata : Word
  /-- MODEL: overwritten values of raced TX buffer bytes (R72; log 9) -/
  stale : List Host.Cell
  /-- MODEL: the bytes whose content an access to the buffer of an outstanding RX transfer left unknown (R72, U2; log 9) -/
  unknown : List Span
  /-- MODEL: how many free values have been drawn (log 9) -/
  draws : Nat
  deriving DecidableEq, Repr

/-- The block right after construction and reset (R49, R290): every register at the value R49 gives, memory with nothing
listed, no request pending, no action performed. -/
def State.reset : State where
  lc := .unpowered
  cbReg := false
  cfg := 0
  txFill := 0
  div := 1
  mulval := 1
  divaddval := 0
  baud := 0
  sendActive := false
  txBuf := 0
  txNum := 0
  txCnt := 0
  txSrc := .buffer
  rxBusy := false
  rxBuf := 0
  rxNum := 0
  rxCnt := 0
  rxDst := .buffer
  syncTag := .none
  rxOverflow := false
  rxBreak := false
  rxFraming := false
  rxParity := false
  ier := 0
  arg0 := 0
  arg1 := 0
  arg2 := 0
  result := 0
  rval := 0
  mem := []
  params := Config.params
  pclk := 0
  lsr := 0
  msr := 0
  fifo := []
  out := []
  pending := []
  rdata := 0
  stale := []
  unknown := []
  draws := 0

end Sys2Proof.Machine
end

