-- ==== Sys2Proof/Machine/Operands.lean ====
section
/-! DEFINITION. The operand forms (spec/30_encoding.md R89 to R91): the fields of the argument registers, of the configuration
word (10_state.md R28), and of the LSR and MSR inputs (R95, R96). -/

namespace Sys2Proof.Machine

/-- INITIALIZE's CB, ARG0[0] (R89). -/
def argCb (a : Word) : Bool := a.getLsbD 0

/-- INITIALIZE's reserved bits ARG0[31:1] are 0 (R90). -/
def argCbWellFormed (a : Word) : Bool := a.extractLsb' 1 31 == 0

/-- The operand of POWER_CONTROL (R89): OFF, LOW, FULL. -/
inductive PowerState where
  | off
  | low
  | full
  deriving DecidableEq, Repr

/-- POWER_CONTROL's STATE, ARG0[1:0]; none for the reserved value 3 and for ARG0[31:2] ≠ 0 (R90). -/
def argPowerState (a : Word) : Option PowerState :=
  if a = 0 then some .off else if a = 1 then some .low else if a = 2 then some .full else none

/-- SET_TX_FILL's value, ARG0[7:0] (R89). -/
def argFill (a : Word) : Byte := a.extractLsb' 0 8

/-- SET_TX_FILL's reserved bits ARG0[31:8] are 0 (R90). -/
def argFillWellFormed (a : Word) : Bool := a.extractLsb' 8 24 == 0

/-- The operating modes of R28. -/
inductive Mode where
  | async
  | syncMaster
  | syncSlave
  | singleWire
  | irda
  | smartCard
  deriving DecidableEq, Repr

/-- MODE's values (R28); 6 and 7 are reserved. -/
def modeOfBits (b : BitVec 3) : Option Mode :=
  match b with
  | 0#3 => some .async
  | 1#3 => some .syncMaster
  | 2#3 => some .syncSlave
  | 3#3 => some .singleWire
  | 4#3 => some .irda
  | 5#3 => some .smartCard
  | _ => none

/-- MODE_CAP (41_lifecycle.md R144). -/
def modeCap (cap : Cap) : Mode → Bool
  | .async => true
  | .syncMaster => cap.syncMaster
  | .syncSlave => cap.syncSlave
  | .singleWire => cap.singleWire
  | .irda => cap.irda
  | .smartCard => cap.smartCard

/-- A synchronous mode (R29): SyncMaster or SyncSlave. -/
def modeIsSync : Mode → Bool
  | .async => false
  | .syncMaster => true
  | .syncSlave => true
  | .singleWire => false
  | .irda => false
  | .smartCard => false

/-- CFG[2:0], MODE (R28). -/
def cfgMode (c : BitVec 10) : BitVec 3 := c.extractLsb' 0 3

/-- CFG[4:3], the data bits minus 5 (R28). -/
def cfgData (c : BitVec 10) : BitVec 2 := c.extractLsb' 3 2

/-- CFG[6:5], PAR (R28); 3 is reserved. -/
def cfgPar (c : BitVec 10) : BitVec 2 := c.extractLsb' 5 2

/-- CFG[7], STOP (R28). -/
def cfgStop (c : BitVec 10) : Bool := c.getLsbD 7

/-- CFG[8], CPOL (R28). -/
def cfgCpol (c : BitVec 10) : Bool := c.getLsbD 8

/-- CFG[9], CPHA (R28). -/
def cfgCpha (c : BitVec 10) : Bool := c.getLsbD 9

/-- CONFIGURE's configuration word, ARG1[9:0] (R89). -/
def argCfg (a : Word) : BitVec 10 := a.extractLsb' 0 10

/-- CONFIGURE's line bits are not reserved: ARG1[31:10] = 0 and PAR ≠ 3 (R90, R144). -/
def argLineWellFormed (a : Word) : Bool := a.extractLsb' 10 22 == 0 && cfgPar (argCfg a) != 3

/-- LSR[1], OE, overrun (R95). -/
def lsrOverrun (l : Byte) : Bool := l.getLsbD 1

/-- LSR[2], PE, parity error (R95). -/
def lsrParity (l : Byte) : Bool := l.getLsbD 2

/-- LSR[3], FE, framing error (R95). -/
def lsrFraming (l : Byte) : Bool := l.getLsbD 3

/-- LSR[4], BI, break (R95). -/
def lsrBreak (l : Byte) : Bool := l.getLsbD 4

/-- MSR[0], DCTS (R96). -/
def msrCts (m : Byte) : Bool := m.getLsbD 0

/-- MSR[1], DDSR (R96). -/
def msrDsr (m : Byte) : Bool := m.getLsbD 1

/-- MSR[2], TERI (R96). -/
def msrRi (m : Byte) : Bool := m.getLsbD 2

/-- MSR[3], DDCD (R96). -/
def msrDcd (m : Byte) : Bool := m.getLsbD 3

end Sys2Proof.Machine
end

