-- ==== Sys2Proof/Machine/Flags.lean ====
section
/-! DEFINITION. The flags (spec/10_state.md): the IER bits (R37), the SYNC and busy predicates (R29, R177), the sticky flags and
the status word (R36, R41), the event mask (R42), and the bit encodings the host reads (R26, R33 to R35, R261). -/

namespace Sys2Proof.Machine

/-- IER with bit `bit` set or cleared (R37). -/
def ierPut (ier : BitVec 4) (bit : Nat) (on : Bool) : BitVec 4 :=
  if on then ier ||| (1#4 <<< bit) else ier &&& ~~~(1#4 <<< bit)

/-- IER.RXE, bit 0, enables RDA and CTI. -/
def State.rxe (s : State) : Bool := s.ier.getLsbD 0

/-- IER.THREE, bit 1, enables THRE. -/
def State.three (s : State) : Bool := s.ier.getLsbD 1

/-- IER.RLSE, bit 2, enables RLS. -/
def State.rlse (s : State) : Bool := s.ier.getLsbD 2

/-- IER.MSE, bit 3, enables MS. -/
def State.mse (s : State) : Bool := s.ier.getLsbD 3

def State.putRxe (s : State) (on : Bool) : State := { s with ier := ierPut s.ier 0 on }

def State.putThree (s : State) (on : Bool) : State := { s with ier := ierPut s.ier 1 on }

def State.putRlse (s : State) (on : Bool) : State := { s with ier := ierPut s.ier 2 on }

/-- SYNC (R29): MODE is SyncMaster (1) or SyncSlave (2). -/
def State.sync (s : State) : Bool := cfgMode s.cfg == 1 || cfgMode s.cfg == 2

/-- MODE = SyncSlave (R28). -/
def State.isSlave (s : State) : Bool := cfgMode s.cfg == 2

/-- LC ∈ {POWERED, CONFIGURED} (R26: powered ⇔ LC ≥ 2). -/
def Lifecycle.isPowered : Lifecycle → Bool
  | .unpowered => false
  | .initialized => false
  | .powered => true
  | .configured => true

/-- A transfer is outstanding on some side (R16). -/
def State.anyBusy (s : State) : Bool := s.sendActive || s.rxBusy

/-- BUSY_FOR(side) (42_transfer.md R177). -/
def State.busyFor (s : State) (side : Side) : Bool :=
  if s.sync then s.anyBusy
  else
    match side with
    | .tx => s.sendActive
    | .rx => s.rxBusy

/-- Clear the four sticky flags (R36, R172). -/
def State.clearSticky (s : State) : State :=
  { s with rxOverflow := false, rxBreak := false, rxFraming := false, rxParity := false }

/-- The status word of R41, which GET_STATUS returns (R185). -/
def State.statusWord (s : State) : Word :=
  0#25 ++ BitVec.ofBool s.rxParity ++ BitVec.ofBool s.rxFraming ++ BitVec.ofBool s.rxBreak ++
    BitVec.ofBool s.rxOverflow ++ 0#1 ++ BitVec.ofBool s.rxBusy ++ BitVec.ofBool s.sendActive

/-- LC's encoding (R26). -/
def Lifecycle.bits : Lifecycle → BitVec 2
  | .unpowered => 0
  | .initialized => 1
  | .powered => 2
  | .configured => 3

/-- TX_SRC's encoding (R33). -/
def TxSource.bit : TxSource → BitVec 1
  | .buffer => 0
  | .fill => 1

/-- RX_DST's encoding (R34). -/
def RxDest.bit : RxDest → BitVec 1
  | .buffer => 0
  | .discard => 1

/-- SYNC_TAG's encoding (R35). -/
def SyncTag.bits : SyncTag → BitVec 2
  | .none => 0
  | .txOnly => 1
  | .rxOnly => 2
  | .txAndRx => 3

/-- The value of a result code (R261). -/
def ResultCode.bits : ResultCode → BitVec 8
  | .ok => 0
  | .invalidParameter => 1
  | .notInitialized => 2
  | .notPowered => 3
  | .notConfigured => 4
  | .busy => 5
  | .unsupportedCapability => 6
  | .baudRateOutOfTolerance => 7
  | .noDivisorFound => 8
  | .invalidClockConfiguration => 9
  | .invalidState => 10
  | .illegalCommand => 11

/-- The events of R42; TX_COMPLETE, bit 3, is never raised and has no constructor. -/
inductive Event where
  | sendComplete
  | receiveComplete
  | transferComplete
  | txUnderflow
  | rxOverflow
  | rxTimeout
  | rxBreak
  | rxFramingError
  | rxParityError
  | ctsChanged
  | dsrChanged
  | dcdChanged
  | riChanged
  deriving DecidableEq, Repr

/-- The bit of an event in the mask (R42). -/
def Event.mask : Event → EventMask
  | .sendComplete => 0x0001
  | .receiveComplete => 0x0002
  | .transferComplete => 0x0004
  | .txUnderflow => 0x0010
  | .rxOverflow => 0x0020
  | .rxTimeout => 0x0040
  | .rxBreak => 0x0080
  | .rxFramingError => 0x0100
  | .rxParityError => 0x0200
  | .ctsChanged => 0x0400
  | .dsrChanged => 0x0800
  | .dcdChanged => 0x1000
  | .riChanged => 0x2000

/-- `post E` under a condition (43_dispatcher.md): the mask of `e` if `c`, else 0. -/
def postIf (c : Bool) (e : Event) : EventMask := if c then e.mask else 0

end Sys2Proof.Machine
end

