-- ==== Sys2Proof/Machine/Memory.lean ====
section
/-! DEFINITION. The data memory as a canonical list (spec/20_memory.md R60): addresses strictly rising and below 2^32, and no
entry equal to what an unlisted address reads as; and the spans of addresses that the record of unknown bytes is made of
(log 9). -/

namespace Sys2Proof.Machine

/-- What an address no one has written reads as: DESIGN CHOICE, UNSAFE (log 6). -/
def Memory.background : Byte := 0

/-- The byte at address `a`. -/
def Memory.read : Memory → Nat → Byte
  | [], _ => Memory.background
  | (b, w) :: m, a => if a = b then w else Memory.read m a

/-- Write `v` at address `a`, keeping the canonical form. -/
def Memory.write : Memory → Nat → Byte → Memory
  | [], a, v => if v = Memory.background then [] else [(a, v)]
  | (b, w) :: m, a, v =>
    if a < b then if v = Memory.background then (b, w) :: m else (a, v) :: (b, w) :: m
    else if a = b then if v = Memory.background then m else (a, v) :: m
    else (b, w) :: Memory.write m a v

/-- Every address of `m` is at least `lo` and below 2^32, they strictly rise, and no entry holds the background. -/
def Memory.wfFrom : Nat → Memory → Bool
  | _, [] => true
  | lo, (b, w) :: m => lo ≤ b && b < 2 ^ 32 && w != Memory.background && Memory.wfFrom (b + 1) m

/-- The canonical form. -/
def Memory.wf (m : Memory) : Bool := Memory.wfFrom 0 m

/-- `a` lies in the span. -/
def Span.covers (x : Span) (a : Nat) : Bool := x.lo ≤ a && a < x.hi

/-- What is left of `x` without the addresses of `y`: a part below it and a part above it, where not empty. -/
def Span.without (y x : Span) : List Span :=
  [⟨x.lo, min x.hi y.lo⟩, ⟨max x.lo y.hi, x.hi⟩].filter fun p => p.lo < p.hi

/-- The addresses (base + i) mod 2^32 for first ≤ i < stop (R65): those up to the top of the address space, and those
that wrap. -/
def spansOf (base : Addr) (first stop : Nat) : List Span :=
  [⟨base.toNat + first, min (base.toNat + stop) (2 ^ 32)⟩,
    ⟨max (base.toNat + first) (2 ^ 32) - 2 ^ 32, base.toNat + stop - 2 ^ 32⟩].filter fun p => p.lo < p.hi

/-- `a` lies in one of the spans. -/
def covered (u : List Span) (a : Addr) : Bool := u.any fun x => x.covers a.toNat

/-- The addresses of `u` that are not in `ys`. -/
def uncover (ys u : List Span) : List Span := ys.foldl (fun u y => u.flatMap (Span.without y)) u

end Sys2Proof.Machine
end

