-- ==== Sys2Proof/Machine/Ops.lean ====
section
/-! DEFINITION. The named operations over memory, registers and outputs: byte accesses and their races (spec/20_memory.md R60 to
R76), the end of a command (00_scope.md R13), and the end of a dispatch (43_dispatcher.md R228, R229). The block has no
trap: `fail`, `illegalCommand` and `deliver` are what it has in place of taking an exception and returning from it
(60_exceptions.md R260, R269, R270). -/

namespace Sys2Proof.Machine

/-- What a part of a step answers. -/
abbrev Answer (α : Type) := Host.Outcome α Fault Refusal

abbrev Result := Answer State

/-- Go on with `f` after a part that answered; a part that does not answer ends the step with no effect (R66, R75). -/
def andThen {α β : Type} (o : Answer α) (f : α → Answer β) : Answer β :=
  match o with
  | .next a => f a
  | .fault r => .fault r
  | .refused r => .refused r

/-- `emit X` (00_scope.md R12). -/
def State.emit (s : State) (a : Action) : State := { s with out := s.out ++ [a] }

/-- `succeed` (R13): RESULT ← OK. -/
def succeed (s : State) : Result := .next { s with result := ResultCode.ok.bits }

/-- `fail(code)` (R13): RESULT ← code and no other effect; `s` is the state the command began in. -/
def fail (code : ResultCode) (s : State) : Result := .next { s with result := code.bits }

/-- An illegal command word (30_encoding.md R88): the block's illegal-instruction exception (R260). -/
def illegalCommand (s : State) : Result := fail .illegalCommand s

/-- The byte at `a` in the data space, for every agent: FILL_ADDR reads as TX_FILL (R76), everything else is the
memory's (R68). DUMP_ADDR therefore reads as the byte the memory holds there, and what a write to FILL_ADDR stored is
never seen: the spec states neither (DEDUCED, log 26). -/
def State.readByte (s : State) (a : Addr) : Byte :=
  if a = s.params.fillAddr then s.txFill else s.mem.read a.toNat

/-- The TX transfer owns `a` (70_reset_and_hazards.md R296): it is (TX_BUF + i) mod 2^32 for an i < TX_NUM. -/
def State.txOwns (s : State) (a : Addr) : Bool :=
  s.sendActive && s.txSrc == .buffer && (a - s.txBuf).toNat < s.txNum.toNat

/-- The RX transfer owns `a` (R297). -/
def State.rxOwns (s : State) (a : Addr) : Bool :=
  s.rxBusy && s.rxDst == .buffer && (a - s.rxBuf).toNat < s.rxNum.toNat

/-- The values the byte at `a` had before it was overwritten under the TX transfer that owns it (R72). -/
def State.staleAt (s : State) (a : Addr) : List Byte :=
  (s.stale.filter fun c => c.1 == a.toNat).map (·.2)

/-- The content of the byte at `a` is unknown (R72, U2; log 9). That of FILL_ADDR never is (R76; log 26). -/
def State.unknownAt (s : State) (a : Addr) : Bool := a != s.params.fillAddr && covered s.unknown a

/-- The first index of the RX buffer that an access makes unknown: in the interrupt path the bytes below RX_CNT are known
(R297, U2), in the engine path none is. -/
def State.rxSettled (s : State) : Nat := if s.params.rxDma.isNone then s.rxCnt.toNat else 0

/-- The contents of the RX buffer become unknown (R72, U2). -/
def State.spoil (s : State) : State :=
  { s with
    unknown :=
      ((spansOf s.rxBuf s.rxSettled s.rxNum.toNat).filter fun x => !s.unknown.contains x) ++ s.unknown }

/-- An agent accesses the byte at `a`: in the buffer of an outstanding RX transfer that makes the buffer's contents unknown
until the transfer completes (R72, U2). -/
def State.touchRx (s : State) (a : Addr) : State := if s.rxOwns a then s.spoil else s

/-- The OK completion of an RX transfer of the engine: all its bytes were moved, and are known (R70, U2). -/
def State.settleRx (s : State) : State :=
  match s.rxDst with
  | .buffer => { s with unknown := uncover (spansOf s.rxBuf 0 s.rxNum.toNat) s.unknown }
  | .discard => s

/-- The record of unknown bytes after a write to `a`: the byte is known again, but for one of an RX transfer of the engine,
which is unknown until that completes (U2). -/
def State.unknownBut (s : State) (a : Addr) : List Span :=
  if s.rxOwns a && s.params.rxDma.isSome then s.unknown else uncover [⟨a.toNat, a.toNat + 1⟩] s.unknown

/-- One byte of the data space written by any agent: DUMP_ADDR discards it (R76); a byte the TX transfer owns keeps its
old value, a FREE VALUE where that is unknown, as one the transfer may still read (R72, U1, U12). A write to FILL_ADDR
stores a byte that no read sees; its old value is the TX_FILL of that moment (log 26). -/
def State.writeByte (s : State) (a : Addr) (v : Byte) : State :=
  if a = s.params.dumpAddr then s
  else
    { s with
      stale :=
        if s.txOwns a then
          (a.toNat, if s.unknownAt a then Config.freeByte s.draws else s.readByte a) :: s.stale
        else s.stale
      unknown := s.unknownBut a
      draws := if s.txOwns a && s.unknownAt a then s.draws + 1 else s.draws
      mem := s.mem.write a.toNat v }

/-- The block's own read of a byte is an access to the RX buffer like any agent's (R72, U2: an asynchronous SEND from a
buffer that is being received into), but in a synchronous mode, where only the two buffers of one TRANSFER can overlap:
there the byte is the old or the new one (U12, R296), which `State.stale` holds. DEDUCED, log 9. -/
def State.blockTouch (s : State) (a : Addr) : State := if s.sync then s else s.touchRx a

/-- The byte the block reads at `a`: a FREE VALUE if it is unknown, and one of its candidate values, a free choice, if it
was raced for (R72, U1, U2). The spec does not say whether R76 or R72 holds at a FILL_ADDR that the TX buffer covers and
someone wrote during the transfer: DEDUCED, both do, so that the candidates are the current TX_FILL and the TX_FILL at each
such write (log 26). -/
def pickByte (a : Addr) (s : State) : Byte × State :=
  if s.unknownAt a then (Config.freeByte s.draws, { s with draws := s.draws + 1 })
  else
    match s.staleAt a with
    | [] => (s.readByte a, s)
    | old :: older =>
      ((s.readByte a :: old :: older).getD (Config.raceIndex s.draws % (older.length + 2)) old,
        { s with draws := s.draws + 1 })

/-- `MemRead(addr, 1)` (R12, R66): records MEM_READ. A byte that an outstanding RX transfer owns, or that an access to such
a buffer left unknown, reads as a FREE VALUE (R72, U2; log 9). -/
def loadByte (a : Addr) (s : State) : Answer (Byte × State) :=
  if s.params.memAdmits .read a then .next (pickByte a ((s.blockTouch a).emit (.memRead a)))
  else .fault (.memNotAdmitted .read a)

/-- `MemWrite(addr, 1, v)` (R12, R66): records MEM_WRITE. -/
def storeByte (a : Addr) (v : Byte) (s : State) : Result :=
  if s.params.memAdmits .write a then .next ((s.emit (.memWrite a v)).writeByte a v)
  else .fault (.memNotAdmitted .write a)

/-- RXREAD (R45): read and remove one character from the peripheral's receive FIFO (log 16). -/
def State.rxRead (s : State) : State := { s.emit .rxRead with fifo := s.fifo.tail }

/-- DMA_PROGRAM (R75): a request DMA_ADMITS rejects has no step. -/
def dmaProgram (r : DmaRequest) (s : State) : Result :=
  if s.params.dmaAdmits r then .next (s.emit (.dmaProgram r)) else .refused (.dmaNotAdmitted r)

/-- COMPLETE(side) (R228): the event of one side's end, and SYNC_TAG consumed by the driving side. The caller has
cleared that side's busy flag. -/
def complete (side : Side) (s : State) : State × EventMask :=
  if s.sync then
    match s.syncTag, side with
    | .txOnly, .tx => ({ s with syncTag := .none }, Event.sendComplete.mask)
    | .rxOnly, .rx => ({ s with syncTag := .none }, Event.receiveComplete.mask)
    | .txAndRx, _ =>
      if s.anyBusy then (s, 0) else ({ s with syncTag := .none }, Event.transferComplete.mask)
    | _, _ => (s, 0)
  else
    match side with
    | .tx => (s, Event.sendComplete.mask)
    | .rx => (s, Event.receiveComplete.mask)

/-- DELIVER() (R229): one CALLBACK if one is registered and the mask is not 0. -/
def deliver (mask : EventMask) (s : State) : State :=
  if s.cbReg && mask != 0 then s.emit (.callback mask) else s

/-- A dispatch (R220, R230): its case with the mask it accumulates, then DELIVER. It saves and restores nothing (R269,
R270). -/
def dispatch (o : Answer (State × EventMask)) : Result :=
  andThen o fun r => .next (deliver r.2 r.1)

/-- A dispatch that does nothing (R221, R227, R233, R234). -/
def ignore (s : State) : Answer (State × EventMask) := .next (s, 0)

end Sys2Proof.Machine
end

