-- ==== Sys2Proof/Machine/Completions.lean ====
section
/-! DEFINITION. The DMA dispatches (spec/43_dispatcher.md R230 to R234), one per completion code. A completion for a side that is
idle or has no channel is ignored (R234). -/

namespace Sys2Proof.Machine

/-- The side is served by the engine and has a transfer outstanding (R230). -/
def State.engineBusy (s : State) : Side → Bool
  | .tx => s.sendActive && s.params.txDma.isSome
  | .rx => s.rxBusy && s.params.rxDma.isSome

/-- DMA_TX_OK() (R231). -/
def dmaTxDone (s : State) : Answer (State × EventMask) :=
  .next (complete .tx { s with txCnt := s.txNum, sendActive := false })

/-- DMA_RX_OK() (R232). The bytes of the buffer are known from here on (R70). -/
def dmaRxDone (s : State) : Answer (State × EventMask) :=
  .next (complete .rx { s.settleRx.putRlse false with rxCnt := s.rxNum, rxBusy := false })

/-- Completion code 00 (R231). -/
def execDmaTxOk (s : State) : Result := dispatch (if s.engineBusy .tx then dmaTxDone s else ignore s)

/-- Completion code 01 (R232). -/
def execDmaRxOk (s : State) : Result := dispatch (if s.engineBusy .rx then dmaRxDone s else ignore s)

/-- Completion code 10 (R233): an error completion changes nothing and raises nothing. -/
def execDmaTxError (s : State) : Result := dispatch (ignore s)

/-- Completion code 11 (R233). -/
def execDmaRxError (s : State) : Result := dispatch (ignore s)

end Sys2Proof.Machine
end

