-- ==== Sys2Proof/Machine/Sides.lean ====
section
/-! DEFINITION. The helpers of the transfer state machine (spec/42_transfer.md R170 to R176) and of the lifecycle (41_lifecycle.md
R140, R143). -/

namespace Sys2Proof.Machine

/-- TX_BYTE(i) (R170). -/
def txByte (i : Word) (s : State) : Answer (Byte × State) :=
  match s.txSrc with
  | .fill => .next (s.txFill, s)
  | .buffer => loadByte (s.txBuf + i) s

/-- Write the `k` characters from index `i` on to the transmit FIFO, each as THR(TX_BYTE(i)) (R173, R222). -/
def pushChars : Nat → Word → State → Result
  | 0, _, s => .next s
  | k + 1, i, s => andThen (txByte i s) fun r => pushChars k (i + 1) (r.2.emit (.thr r.1))

/-- SETUP_TX(src, buf, len) (R171). A new transfer has raced with nothing yet. -/
def setupTx (src : TxSource) (buf : Addr) (len : Word) (s : State) : State :=
  { s with
    sendActive := true
    txSrc := src
    txBuf := match src with
      | .fill => s.params.fillAddr
      | .buffer => buf
    txNum := len
    txCnt := 0
    stale := [] }

/-- SETUP_RX(dst, buf, len) (R172). -/
def setupRx (dst : RxDest) (buf : Addr) (len : Word) (s : State) : State :=
  { s.clearSticky with
    rxBusy := true
    rxDst := dst
    rxBuf := match dst with
      | .discard => s.params.dumpAddr
      | .buffer => buf
    rxNum := len
    rxCnt := 0 }

/-- The request ARM_TX programs (R173). -/
def State.txRequest (s : State) (ch : Nat) : DmaRequest :=
  { chan := ch, src := s.txBuf, dst := s.params.thrAddr, len := s.txNum, srcInc := s.txSrc == .buffer, dstInc := false }

/-- The request ARM_RX programs (R174). -/
def State.rxRequest (s : State) (ch : Nat) : DmaRequest :=
  { chan := ch, src := s.params.rbrAddr, dst := s.rxBuf, len := s.rxNum, srcInc := false, dstInc := s.rxDst == .buffer }

/-- ARM_TX() (R173). -/
def armTx (s : State) : Result :=
  match s.params.txDma with
  | some ch => dmaProgram (s.txRequest ch) s
  | none =>
    andThen (pushChars (min Config.burst s.txNum.toNat) 0 s) fun t =>
      .next ({ t with txCnt := BitVec.ofNat 32 (min Config.burst s.txNum.toNat) }.putThree true)

/-- ARM_RX() (R174). -/
def armRx (s : State) : Result :=
  match s.params.rxDma with
  | some ch => dmaProgram (s.rxRequest ch) (s.putRlse true)
  | none => .next ((s.putRlse true).putRxe true)

/-- Arm both sides of a synchronous start, RX before TX (R178). -/
def armBoth (s : State) : Result := andThen (armRx s) armTx

/-- DMA_DISABLE of a busy side's channel (R175, R176). -/
def disableChannel (busy : Bool) (chan : Option Nat) (s : State) : State :=
  if busy then
    match chan with
    | some ch => s.emit (.dmaDisable ch)
    | none => s
  else s

/-- FIFO_RESET(side), only while the peripheral is powered (R175, R176). -/
def resetFifo (side : Side) (s : State) : State :=
  if s.lc.isPowered then s.emit (.fifoReset side) else s

/-- ABORT_TX() (R175). -/
def abortTx (s : State) : State :=
  { resetFifo .tx (disableChannel s.sendActive s.params.txDma (s.putThree false)) with sendActive := false }

/-- ABORT_RX() (R176). -/
def abortRx (s : State) : State :=
  { resetFifo .rx (disableChannel s.rxBusy s.params.rxDma ((s.putRxe false).putRlse false)) with rxBusy := false }

/-- RUNTIME_CLEAR() (R140). -/
def runtimeClear (s : State) : State :=
  { s.clearSticky with
    sendActive := false
    txBuf := 0
    txNum := 0
    txCnt := 0
    txSrc := .buffer
    rxBusy := false
    rxBuf := 0
    rxNum := 0
    rxCnt := 0
    rxDst := .buffer
    syncTag := .none
    cfg := 0
    baud := 0
    txFill := 0
    ier := 0 }

/-- POWER_DOWN() (R143). -/
def powerDown (s : State) : State :=
  { abortRx (abortTx s) with syncTag := .none, ier := 0 }

end Sys2Proof.Machine
end

