-- ==== Sys2Proof/Machine/Interrupts.lean ====
section
/-! DEFINITION. The IRQ dispatches (spec/43_dispatcher.md R220 to R227): one case per interrupt-id code, each gated by its IER
bit (R221) and ended by DELIVER (R229). The inputs LSR, MSR and FIFO are State's (10_state.md R48). -/

namespace Sys2Proof.Machine

/-- THRE_CASE() (R222): refill up to BURST characters, then complete when all are written. -/
def threCase (s : State) : Answer (State × EventMask) :=
  andThen (pushChars (min Config.burst (s.txNum.toNat - s.txCnt.toNat)) s.txCnt s) fun t =>
    let u := { t with txCnt := t.txCnt + BitVec.ofNat 32 (min Config.burst (s.txNum.toNat - s.txCnt.toNat)) }
    if u.txCnt = u.txNum then .next (complete .tx { u.putThree false with sendActive := false })
    else .next (u, 0)

/-- The events of RLS_CASE(LSR) (R223): break is reported instead of framing. -/
def rlsMask (s : State) : EventMask :=
  postIf (lsrOverrun s.lsr) .rxOverflow |||
  postIf (lsrOverrun s.lsr && s.isSlave && s.sendActive) .txUnderflow |||
  postIf (lsrParity s.lsr) .rxParityError |||
  postIf (lsrBreak s.lsr) .rxBreak |||
  postIf (!lsrBreak s.lsr && lsrFraming s.lsr) .rxFramingError

/-- RLS_CASE(LSR) (R223): sticky flags are only set here, never cleared. -/
def rlsCase (s : State) : Answer (State × EventMask) :=
  .next
    ({ s with
        rxOverflow := s.rxOverflow || lsrOverrun s.lsr
        rxParity := s.rxParity || lsrParity s.lsr
        rxBreak := s.rxBreak || lsrBreak s.lsr
        rxFraming := s.rxFraming || (!lsrBreak s.lsr && lsrFraming s.lsr) },
      rlsMask s)

/-- One drained character (R224): into the RX buffer, or discarded on the silent side. -/
def drainChar (c : Byte) (s : State) : Result :=
  match s.rxDst with
  | .buffer => storeByte (s.rxBuf + s.rxCnt) c s.rxRead
  | .discard => .next s.rxRead

/-- Drain the characters `cs` in order (R224). -/
def drainChars : List Byte → State → Result
  | [], s => .next s
  | c :: cs, s => andThen (drainChar c s) fun t => drainChars cs { t with rxCnt := t.rxCnt + 1 }

/-- DRAIN(FIFO) (R224): stop the instant the requested count is reached. -/
def drain (s : State) : Answer (State × EventMask) :=
  andThen (drainChars (s.fifo.take (s.rxNum.toNat - s.rxCnt.toNat)) s) fun t =>
    if t.rxCnt = t.rxNum then .next (complete .rx { (t.putRxe false).putRlse false with rxBusy := false })
    else .next (t, 0)

/-- CTI_TIMEOUT() (R225), after DRAIN: not gated by CAP.event_rx_timeout. -/
def ctiTimeout (r : State × EventMask) : State × EventMask :=
  (r.1, r.2 ||| postIf (r.1.rxCnt != r.1.rxNum) .rxTimeout)

/-- MS_CASE(MSR) (R226), each change gated by its capability. -/
def msMask (s : State) : EventMask :=
  postIf (msrCts s.msr && s.params.cap.eventCts) .ctsChanged |||
  postIf (msrDsr s.msr && s.params.cap.eventDsr) .dsrChanged |||
  postIf (msrRi s.msr && s.params.cap.eventRi) .riChanged |||
  postIf (msrDcd s.msr && s.params.cap.eventDcd) .dcdChanged

/-- IIR = xxx1, no interrupt pending (R227). -/
def execIrqNone (_id : BitVec 3) (s : State) : Result := dispatch (ignore s)

/-- IIR = 0010, transmit-empty (R222). -/
def execIrqThre (s : State) : Result := dispatch (if s.three then threCase s else ignore s)

/-- IIR = 0110, receive-line-status (R223). -/
def execIrqRls (s : State) : Result := dispatch (if s.rlse then rlsCase s else ignore s)

/-- IIR = 0100, receive-data-available (R224). -/
def execIrqRda (s : State) : Result := dispatch (if s.rxe then drain s else ignore s)

/-- IIR = 1100, character-timeout (R224, R225). -/
def execIrqCti (s : State) : Result :=
  dispatch (if s.rxe then andThen (drain s) fun r => .next (ctiTimeout r) else ignore s)

/-- IIR = 0000, modem-line-status (R226). -/
def execIrqMs (s : State) : Result := dispatch (if s.mse then .next (s, msMask s) else ignore s)

/-- IIR = 1000, reserved (R227). -/
def execIrqReserved8 (s : State) : Result := dispatch (ignore s)

/-- IIR = 1010, reserved (R227). -/
def execIrqReservedA (s : State) : Result := dispatch (ignore s)

/-- IIR = 1110, reserved (R227). -/
def execIrqReservedE (s : State) : Result := dispatch (ignore s)

end Sys2Proof.Machine
end

