-- ==== Sys2Proof/Machine/Solver.lean ====
section
/-! DEFINITION. The Baud-Rate Solver (spec/40_baud_solver.md R120 to R130): natural numbers, computed exactly (R129). -/

namespace Sys2Proof.Machine

/-- The 120 candidates (m, d) in the order of R121. -/
def solverPairs : List (Nat × Nat) :=
  (List.range 15).flatMap fun k => (List.range (k + 1)).map fun d => (k + 1, d)

/-- The scaled quotient Q (R122). -/
def solverQuotient (f b m d : Nat) : Nat := f * m * 2 ^ 28 / (b * (m + d))

/-- The rounded divisor dv of a candidate (R123): a fraction of exactly one half rounds down. -/
def solverDivisor (f b m d : Nat) : Nat :=
  if solverQuotient f b m d % 2 ^ 32 > 2 ^ 31 then solverQuotient f b m d / 2 ^ 32 + 1
  else solverQuotient f b m d / 2 ^ 32

/-- The absolute scaled error err of a candidate (R123). -/
def solverError (f b m d : Nat) : Nat :=
  if solverQuotient f b m d % 2 ^ 32 > 2 ^ 31 then 2 ^ 32 - solverQuotient f b m d % 2 ^ 32
  else solverQuotient f b m d % 2 ^ 32

/-- The range of the divisor (R123). -/
def solverValid (f b m d : Nat) : Bool := 1 ≤ solverDivisor f b m d && solverDivisor f b m d ≤ 65536

/-- A candidate the search keeps (R124). -/
structure Candidate where
  m : Nat
  d : Nat
  dv : Nat
  err : Nat
  deriving DecidableEq, Repr

/-- An error improves on the best so far: strictly, so the first of equals stays (R124). -/
def improves (err : Nat) : Option Candidate → Bool
  | none => true
  | some c => err < c.err

/-- The search over the remaining candidates (R124), stopped by an exact match. -/
def solverSearch (f b : Nat) : List (Nat × Nat) → Option Candidate → Option Candidate
  | [], best => best
  | (m, d) :: rest, best =>
    if solverValid f b m d && improves (solverError f b m d) best then
      if solverError f b m d = 0 then some ⟨m, d, solverDivisor f b m d, solverError f b m d⟩
      else solverSearch f b rest (some ⟨m, d, solverDivisor f b m d, solverError f b m d⟩)
    else solverSearch f b rest best

/-- SOLVE's result (R120). -/
inductive SolveResult where
  | ok (m d dv a : Nat)
  | noDivisor
  | outOfTolerance
  deriving DecidableEq, Repr

/-- The achieved baud A (R126). -/
def achievedBaud (f m d dv : Nat) : Nat := f * m / (16 * dv * (m + d))

/-- |x − y| (R10). -/
def absDiff (x y : Nat) : Nat := (x - y) + (y - x)

/-- The end of SOLVE on what the search kept: no divisor (R125), or the achieved rate judged by the tolerance (R126, R127). -/
def judge (tolPct f b : Nat) : Option Candidate → SolveResult
  | none => .noDivisor
  | some c =>
    if 100 * absDiff (achievedBaud f c.m c.d c.dv) b > tolPct * b then .outOfTolerance
    else .ok c.m c.d c.dv (achievedBaud f c.m c.d c.dv)

/-- SOLVE(F, B) with the tolerance TOL_PCT (R120, R125, R127). -/
def solve (tolPct f b : Nat) : SolveResult := judge tolPct f b (solverSearch f b solverPairs none)

end Sys2Proof.Machine
end

