-- ==== Sys2Proof/Machine/Lifecycle.lean ====
section
/-! DEFINITION. The boundary commands (spec/41_lifecycle.md R141 to R145): INITIALIZE, UNINITIALIZE, POWER_CONTROL, CONFIGURE,
SET_TX_FILL. Every check comes before every change (00_scope.md R13). -/

namespace Sys2Proof.Machine

/-- INITIALIZE (R141). -/
def execInitialize (s : State) : Result :=
  if !argCbWellFormed s.arg0 then fail .invalidParameter s
  else
    match s.lc with
    | .powered => fail .invalidState s
    | .configured => fail .invalidState s
    | .initialized => succeed s
    | .unpowered => succeed { runtimeClear s with cbReg := argCb s.arg0, lc := .initialized }

/-- UNINITIALIZE (R142). -/
def execUninitialize (s : State) : Result :=
  succeed
    { runtimeClear (if s.lc.isPowered then powerDown s else s) with cbReg := false, lc := .unpowered }

/-- POWER_CONTROL(OFF) (R143). -/
def powerOff (s : State) : Result :=
  if s.lc.isPowered then succeed { powerDown s with lc := .initialized } else succeed s

/-- POWER_CONTROL(FULL) (R143). -/
def powerFull (s : State) : Result :=
  if s.lc = .unpowered then fail .notInitialized s
  else if s.anyBusy then fail .busy s
  else succeed { s with ier := if s.params.hasModem then 0b1000 else 0b0000, lc := .powered }

/-- POWER_CONTROL (R143). -/
def execPowerControl (s : State) : Result :=
  match argPowerState s.arg0 with
  | none => fail .invalidParameter s
  | some .low => fail .unsupportedCapability s
  | some .off => powerOff s
  | some .full => powerFull s

/-- The end of CONFIGURE on the solver's answer (R144, R128). What R144 does not list as written, TX_SRC and RX_DST among it, stays
(log 15). -/
def commitBaud (r : SolveResult) (s : State) : Result :=
  match r with
  | .noDivisor => fail .noDivisorFound s
  | .outOfTolerance => fail .baudRateOutOfTolerance s
  | .ok m d dv a =>
    succeed
      { s with
        cfg := argCfg s.arg1
        div := BitVec.ofNat 17 dv
        mulval := BitVec.ofNat 4 m
        divaddval := BitVec.ofNat 4 d
        baud := BitVec.ofNat 32 a
        lc := .configured }

/-- The sampled clock and the target rate go to the solver (R144, 00_scope.md R8). -/
def configureBaud (s : State) : Result := commitBaud (solve s.params.tolPct s.pclk.toNat s.arg0.toNat) s

/-- The checks of CONFIGURE on a mode that is no reserved value (R144). -/
def configureMode (mode : Mode) (s : State) : Result :=
  if !modeCap s.params.cap mode then fail .unsupportedCapability s
  else if s.anyBusy then fail .busy s
  else if !argLineWellFormed s.arg1 then fail .invalidParameter s
  else if modeIsSync mode &&
      !s.params.clockOk (cfgMode (argCfg s.arg1)) (cfgCpol (argCfg s.arg1)) (cfgCpha (argCfg s.arg1)) then
    fail .invalidClockConfiguration s
  else if s.arg0 = 0 then fail .invalidParameter s
  else configureBaud s

/-- CONFIGURE (R144), its checks in the document's order. -/
def execConfigure (s : State) : Result :=
  if !s.lc.isPowered then fail .notPowered s
  else
    match modeOfBits (cfgMode (argCfg s.arg1)) with
    | none => fail .invalidParameter s
    | some mode => configureMode mode s

/-- SET_TX_FILL (R145). -/
def execSetTxFill (s : State) : Result :=
  if !s.lc.isPowered then fail .notPowered s
  else if !argFillWellFormed s.arg0 then fail .invalidParameter s
  else succeed { s with txFill := argFill s.arg0 }

end Sys2Proof.Machine
end

