-- ==== Sys2Proof/Machine/Transfer.lean ====
section
/-! DEFINITION. The commands of the transfer state machine (spec/42_transfer.md R180 to R188). -/

namespace Sys2Proof.Machine

/-- SEND (R180): ARG0 is the buffer, ARG1 the length. -/
def execSend (s : State) : Result :=
  if s.arg0 = 0 ∨ s.arg1 = 0 then fail .invalidParameter s
  else if s.lc ≠ .configured then fail .notConfigured s
  else if s.busyFor .tx then fail .busy s
  else if s.sync then
    andThen
      (armBoth (setupRx .discard 0 s.arg1 { setupTx .buffer s.arg0 s.arg1 s with syncTag := .txOnly })) succeed
  else andThen (armTx (setupTx .buffer s.arg0 s.arg1 s)) succeed

/-- RECEIVE (R181): ARG0 is the buffer, ARG1 the length. -/
def execReceive (s : State) : Result :=
  if s.arg0 = 0 ∨ s.arg1 = 0 then fail .invalidParameter s
  else if s.lc ≠ .configured then fail .notConfigured s
  else if s.busyFor .rx then fail .busy s
  else if s.sync then
    andThen (armBoth (setupTx .fill 0 s.arg1 { setupRx .buffer s.arg0 s.arg1 s with syncTag := .rxOnly })) succeed
  else andThen (armRx (setupRx .buffer s.arg0 s.arg1 s)) succeed

/-- TRANSFER (R182): ARG0 is the TX buffer, ARG1 the RX buffer, ARG2 the length. -/
def execTransfer (s : State) : Result :=
  if s.arg0 = 0 ∨ s.arg1 = 0 ∨ s.arg2 = 0 then fail .invalidParameter s
  else if s.lc ≠ .configured then fail .notConfigured s
  else if !s.sync then fail .invalidState s
  else if s.anyBusy then fail .busy s
  else
    andThen
      (armBoth { setupTx .buffer s.arg0 s.arg2 (setupRx .buffer s.arg1 s.arg2 s) with syncTag := .txAndRx }) succeed

/-- GET_TX_COUNT (R183). -/
def execGetTxCount (s : State) : Result := succeed { s with rval := s.txCnt }

/-- GET_RX_COUNT (R184). -/
def execGetRxCount (s : State) : Result := succeed { s with rval := s.rxCnt }

/-- GET_STATUS (R185). -/
def execGetStatus (s : State) : Result := succeed { s with rval := s.statusWord }

/-- ABORT_SEND (R186): in a synchronous mode the paired side goes with it, TX first. -/
def execAbortSend (s : State) : Result :=
  succeed { (if s.sync then abortRx (abortTx s) else abortTx s) with syncTag := .none }

/-- ABORT_RECEIVE (R187). -/
def execAbortReceive (s : State) : Result :=
  succeed { abortRx (if s.sync then abortTx s else s) with syncTag := .none }

/-- ABORT_TRANSFER (R188). -/
def execAbortTransfer (s : State) : Result :=
  succeed { abortRx (abortTx s) with syncTag := .none }

end Sys2Proof.Machine
end

