-- ==== Sys2Proof/Machine/Dispatch.lean ====
section
/-! DEFINITION. One arm per instruction, each one call of its meaning. -/

namespace Sys2Proof.Machine

def exec (i : Instr) (s : State) : Host.Outcome State Fault Refusal :=
  match i with
  | .initialise => Sys2Proof.Machine.execInitialize s
  | .uninitialize => Sys2Proof.Machine.execUninitialize s
  | .powerControl => Sys2Proof.Machine.execPowerControl s
  | .configure => Sys2Proof.Machine.execConfigure s
  | .setTxFill => Sys2Proof.Machine.execSetTxFill s
  | .send => Sys2Proof.Machine.execSend s
  | .receive => Sys2Proof.Machine.execReceive s
  | .transfer => Sys2Proof.Machine.execTransfer s
  | .getTxCount => Sys2Proof.Machine.execGetTxCount s
  | .getRxCount => Sys2Proof.Machine.execGetRxCount s
  | .getStatus => Sys2Proof.Machine.execGetStatus s
  | .abortSend => Sys2Proof.Machine.execAbortSend s
  | .abortReceive => Sys2Proof.Machine.execAbortReceive s
  | .abortTransfer => Sys2Proof.Machine.execAbortTransfer s
  | .irqNone id => Sys2Proof.Machine.execIrqNone id s
  | .irqThre => Sys2Proof.Machine.execIrqThre s
  | .irqRls => Sys2Proof.Machine.execIrqRls s
  | .irqRda => Sys2Proof.Machine.execIrqRda s
  | .irqCti => Sys2Proof.Machine.execIrqCti s
  | .irqMs => Sys2Proof.Machine.execIrqMs s
  | .irqReserved8 => Sys2Proof.Machine.execIrqReserved8 s
  | .irqReservedA => Sys2Proof.Machine.execIrqReservedA s
  | .irqReservedE => Sys2Proof.Machine.execIrqReservedE s
  | .dmaTxOk => Sys2Proof.Machine.execDmaTxOk s
  | .dmaRxOk => Sys2Proof.Machine.execDmaRxOk s
  | .dmaTxError => Sys2Proof.Machine.execDmaTxError s
  | .dmaRxError => Sys2Proof.Machine.execDmaRxError s

end Sys2Proof.Machine
end

