-- ==== Sys2Proof/WellFormed.lean ====
section
/-! DEFINITION. Which requests of the environment are well formed (spec/20_memory.md R62, R64). An instruction has no ill-formed
term: the one operand an instruction word carries is a `BitVec 3`, and a command's reserved argument values are no
matter of form, since its rule answers them with a result code (30_encoding.md R90). -/

namespace Sys2Proof

/-- A host access is a whole 32-bit word at an offset that is a multiple of 4 (R64). -/
def wordAccess (off : BitVec 7) (bytes : Nat) : Bool :=
  bytes == 4 && off.extractLsb' 0 2 == 0#2

def Request.wf : Request → Bool
  | .hostWrite off bytes _ _ => wordAccess off bytes
  | .hostRead off bytes => wordAccess off bytes
  | .irq _ _ _ _ => true
  | .dma _ => true
  | .reset => true
  | .memWrite _ _ _ => true
  | .memRead _ _ => true

end Sys2Proof
end

