-- ==== Sys2Proof/Decode.lean ====
section
/-! DEFINITION. The decoder and the encoder, from the encoding tables of spec/30_encoding.md (R85 to R97). Decoding a
command word is total and rejects by name; the two dispatch codes decode without rejection. -/

namespace Sys2Proof

/-- Why a command word is no command (R86, R88). The block answers either with IllegalCommand. -/
inductive DecodeError where
  /-- RSV, bits [31:8], is not 0 -/
  | reservedBits (w : BitVec 32)
  /-- OPC is not in the opcode map of R87 -/
  | unknownOpcode (opc : BitVec 8)
  deriving DecidableEq, Repr

/-- The opcode map of R87. -/
def decodeOpcode (opc : BitVec 8) : Except DecodeError Instr :=
  match opc with
  | 0x01#8 => .ok .initialise
  | 0x02#8 => .ok .uninitialize
  | 0x03#8 => .ok .powerControl
  | 0x04#8 => .ok .configure
  | 0x05#8 => .ok .setTxFill
  | 0x10#8 => .ok .send
  | 0x11#8 => .ok .receive
  | 0x12#8 => .ok .transfer
  | 0x13#8 => .ok .getTxCount
  | 0x14#8 => .ok .getRxCount
  | 0x15#8 => .ok .getStatus
  | 0x16#8 => .ok .abortSend
  | 0x17#8 => .ok .abortReceive
  | 0x18#8 => .ok .abortTransfer
  | _ => .error (.unknownOpcode opc)

/-- The command word of R86: OPC in [7:0], RSV in [31:8] must be 0. -/
def decodeCommand (w : BitVec 32) : Except DecodeError Instr :=
  if w.extractLsb' 8 24 = 0#24 then decodeOpcode (w.extractLsb' 0 8) else .error (.reservedBits w)

/-- The interrupt-id code of R93. -/
def decodeIir (c : BitVec 4) : Instr :=
  if c.getLsbD 0 then .irqNone (c.extractLsb' 1 3)
  else
    match c with
    | 0b0010#4 => .irqThre
    | 0b0110#4 => .irqRls
    | 0b0100#4 => .irqRda
    | 0b1100#4 => .irqCti
    | 0b0000#4 => .irqMs
    | 0b1000#4 => .irqReserved8
    | 0b1010#4 => .irqReservedA
    | _ => .irqReservedE

/-- The completion code of R97: SIDE in [0], STATUS in [1]. -/
def decodeCompletion (c : BitVec 2) : Instr :=
  match c.getLsbD 0, c.getLsbD 1 with
  | false, false => .dmaTxOk
  | true, false => .dmaRxOk
  | false, true => .dmaTxError
  | true, true => .dmaRxError

/-- The decoder over the three kinds of word (R85). -/
def decode : CodeWord → Except DecodeError Instr
  | .command w => decodeCommand w
  | .iir c => .ok (decodeIir c)
  | .completion c => .ok (decodeCompletion c)

/-- The encoder, written from the same tables (R87, R93, R97). -/
def encode : Instr → CodeWord
  | .initialise => .command 0x00000001#32
  | .uninitialize => .command 0x00000002#32
  | .powerControl => .command 0x00000003#32
  | .configure => .command 0x00000004#32
  | .setTxFill => .command 0x00000005#32
  | .send => .command 0x00000010#32
  | .receive => .command 0x00000011#32
  | .transfer => .command 0x00000012#32
  | .getTxCount => .command 0x00000013#32
  | .getRxCount => .command 0x00000014#32
  | .getStatus => .command 0x00000015#32
  | .abortSend => .command 0x00000016#32
  | .abortReceive => .command 0x00000017#32
  | .abortTransfer => .command 0x00000018#32
  | .irqNone id => .iir (id ++ 1#1)
  | .irqThre => .iir 0b0010#4
  | .irqRls => .iir 0b0110#4
  | .irqRda => .iir 0b0100#4
  | .irqCti => .iir 0b1100#4
  | .irqMs => .iir 0b0000#4
  | .irqReserved8 => .iir 0b1000#4
  | .irqReservedA => .iir 0b1010#4
  | .irqReservedE => .iir 0b1110#4
  | .dmaTxOk => .completion 0b00#2
  | .dmaRxOk => .completion 0b01#2
  | .dmaTxError => .completion 0b10#2
  | .dmaRxError => .completion 0b11#2

/-- The kind of word that `nbits` bits of value `w` are, by the widths of R85: more than 8 bits a command word, 2 bits a
completion code, otherwise an interrupt-id code, its bits above [3:0] absent (R94). One BYTE may stand for either
dispatch code; it is read as an interrupt-id code (log 12). -/
def tableCodeWord (nbits w : Nat) : Option CodeWord :=
  if 8 < nbits then if w < 2 ^ 32 then some (.command (BitVec.ofNat 32 w)) else none
  else if nbits = 2 then if w < 4 then some (.completion (BitVec.ofNat 2 w)) else none
  else if w < 16 then some (.iir (BitVec.ofNat 4 w)) else none

/-- The instruction the decoder reads from an opcode-table row's bits. -/
def decodeTableWord (nbits w : Nat) : Option Instr :=
  match tableCodeWord nbits w with
  | some c =>
    match decode c with
    | .ok i => some i
    | .error _ => none
  | none => none

end Sys2Proof
end

