-- ==== Sys2Proof/Machine/Window.lean ====
section
/-! DEFINITION. The host register window (spec/10_state.md R39, R40; 20_memory.md R71). -/

namespace Sys2Proof.Machine

/-- The STATE view register (R40). -/
def State.stateView (s : State) : Word :=
  0#13 ++ s.cfg ++ s.rxDst.bit ++ s.txSrc.bit ++ s.syncTag.bits ++ BitVec.ofBool s.rxBusy ++
    BitVec.ofBool s.sendActive ++ BitVec.ofBool s.cbReg ++ s.lc.bits

/-- The STICKY register (R39). -/
def State.stickyView (s : State) : Word :=
  0#28 ++ BitVec.ofBool s.rxParity ++ BitVec.ofBool s.rxFraming ++ BitVec.ofBool s.rxBreak ++
    BitVec.ofBool s.rxOverflow

/-- What a host read of the window returns, by byte offset (R39); CMD and the reserved offsets read 0. -/
def State.windowRead (s : State) (off : BitVec 7) : Word :=
  match off with
  | 0x04#7 => s.arg0
  | 0x08#7 => s.arg1
  | 0x0C#7 => s.arg2
  | 0x10#7 => 0#24 ++ s.result
  | 0x14#7 => s.rval
  | 0x18#7 => s.stateView
  | 0x1C#7 => 0#15 ++ s.div
  | 0x20#7 => 0#24 ++ s.mulval ++ s.divaddval
  | 0x24#7 => s.baud
  | 0x28#7 => 0#28 ++ s.ier
  | 0x2C#7 => 0#24 ++ s.txFill
  | 0x30#7 => s.txBuf
  | 0x34#7 => s.txNum
  | 0x38#7 => s.txCnt
  | 0x3C#7 => s.rxBuf
  | 0x40#7 => s.rxNum
  | 0x44#7 => s.rxCnt
  | 0x48#7 => s.stickyView
  | _ => 0

/-- The effect of a host write to an offset other than CMD (R39, R71): ARG0 to ARG2 store the word, everything else is
ignored. -/
def State.windowWrite (s : State) (off : BitVec 7) (w : Word) : State :=
  match off with
  | 0x04#7 => { s with arg0 := w }
  | 0x08#7 => { s with arg1 := w }
  | 0x0C#7 => { s with arg2 := w }
  | _ => s

end Sys2Proof.Machine
end

