-- ==== Sys2Proof/Machine/Requests.lean ====
section
/-! DEFINITION. Taking one request of the environment (spec/10_state.md R21): which instruction it runs, the inputs it supplies
(R8, R48), and the effect of a request that runs none. -/

namespace Sys2Proof.Machine

/-- The offset of CMD (R39). -/
def cmdOffset : BitVec 7 := 0x00

/-- The instruction a request runs, if any: a command word written to CMD as an aligned word (R86), an interrupt-id code
(R93) or a completion code (R97). -/
def instrOf : Request → Option Instr
  | .hostWrite off bytes w _ =>
    if wordAccess off bytes && off == cmdOffset then
      match decode (.command w) with
      | .ok i => some i
      | .error _ => none
    else none
  | .irq c _ _ _ => some (decodeIir c)
  | .dma c => some (decodeCompletion c)
  | .hostRead _ _ => none
  | .reset => none
  | .memWrite _ _ _ => none
  | .memRead _ _ => none

/-- The inputs the environment supplies with a request (R8, R48). -/
def State.withInputs (s : State) : Request → State
  | .hostWrite _ _ _ p => { s with pclk := p }
  | .irq _ l m f => { s with lsr := l, msr := m, fifo := f }
  | .hostRead _ _ => s
  | .dma _ => s
  | .reset => s
  | .memWrite _ _ _ => s
  | .memRead _ _ => s

/-- RESET() (70_reset_and_hazards.md R290): every register of R49 at its reset value; memory and parameters unchanged, no
output. What is outside the block is unchanged too (R291). -/
def resetBlock (s : State) : State :=
  { State.reset with
    mem := s.mem
    params := s.params
    pclk := s.pclk
    lsr := s.lsr
    msr := s.msr
    fifo := s.fifo
    out := s.out
    pending := s.pending
    rdata := s.rdata
    stale := s.stale
    unknown := s.unknown
    draws := s.draws }

/-- A write by `agent` in the buffer of an outstanding RX transfer is foreign to it, unless the engine serves that transfer
(R72, R70). -/
def State.rxForeign (s : State) (agent : MemAgent) : Bool :=
  match agent with
  | .host => true
  | .engine => s.params.rxDma.isNone

/-- Another agent writes a byte of the shared memory (R47). A byte so written in the buffer of an outstanding RX transfer
holds a FREE VALUE, and the rest of that buffer is unknown with it (R72, U2; log 9). -/
def externalWrite (agent : MemAgent) (a : Addr) (v : Byte) (s : State) : State :=
  if s.rxOwns a && s.rxForeign agent then
    (({ s with draws := s.draws + 1 } : State).writeByte a (Config.freeByte s.draws)).touchRx a
  else s.writeByte a v

/-- The byte a read by the host returns, a FREE VALUE if it is unknown (U2). -/
def hostByte (a : Addr) (s : State) : State :=
  if s.unknownAt a then { s with rdata := (Config.freeByte s.draws).zeroExtend 32, draws := s.draws + 1 }
  else { s with rdata := (s.readByte a).zeroExtend 32 }

/-- Another agent reads a byte of the shared memory (R47): in the buffer of an outstanding RX transfer that makes the
buffer's contents unknown (R72, R297, U2; log 22). What the engine does with the byte is not the block's. -/
def externalRead (agent : MemAgent) (a : Addr) (s : State) : State :=
  match agent with
  | .host => hostByte a (s.touchRx a)
  | .engine => s.touchRx a

/-- A request that runs no instruction: a host write that is no command, a host read, a reset, or another agent's memory
access. A host access that is not an aligned word is refused (R64). -/
def serve (r : Request) (s : State) : Result :=
  match r with
  | .hostWrite off bytes w _ =>
    if wordAccess off bytes then
      if off = cmdOffset then illegalCommand s else .next (s.windowWrite off w)
    else .refused (.hostAccessNotWord off bytes)
  | .hostRead off bytes =>
    if wordAccess off bytes then .next { s with rdata := s.windowRead off } else .refused (.hostAccessNotWord off bytes)
  | .reset => .next (resetBlock s)
  | .memWrite agent a v => .next (externalWrite agent a v s)
  | .memRead agent a => .next (externalRead agent a s)
  | .irq _ _ _ _ => .next s
  | .dma _ => .next s

end Sys2Proof.Machine
end

