-- ==== Sys2Proof/Machine/Step.lean ====
section
/-! DEFINITION. One step (spec/10_state.md R21, 20_memory.md R67): the next request of the environment is taken, whole. The block
fetches nothing (R77): its next instruction is the one the next request carries. -/

namespace Sys2Proof.Machine

/-- One step: take the first pending request with its inputs, and run its instruction or serve it. -/
def step (s : State) : Host.Outcome State Fault Refusal :=
  match s.pending with
  | [] => .refused .noStepPending
  | r :: rest =>
    match instrOf r with
    | some i => exec i ({ s with pending := rest }.withInputs r)
    | none => serve r { s with pending := rest }

/-- The request that presents a code word to the block, with the inputs that stand in `s`. -/
def requestOf (s : State) : CodeWord → Request
  | .command w => .hostWrite cmdOffset 4 w s.pclk
  | .iir c => .irq c s.lsr s.msr s.fifo
  | .completion c => .dma c

/-- `s` with the instruction of an opcode-table row as the next request (log 12, log 13). -/
def State.withFetchWord (s : State) (nbits w : Nat) : State :=
  match tableCodeWord nbits w with
  | some c => { s with pending := requestOf s c :: s.pending }
  | none => s

end Sys2Proof.Machine
end

