-- ==== Sys2Proof/Safety.lean ====
section
/-! DEFINITION. What a claim calls a good state and a good environment: the invariants of spec/10_state.md R43 and R44 and the
ranges the rules give, the duties of the peripheral and the engine (70_reset_and_hazards.md R300, R301), and the kinds
of output action that statements count. -/

namespace Sys2Proof.Machine

/-- A command (R87): its code word is a command word. -/
def isCommand (i : Instr) : Bool :=
  match encode i with
  | .command _ => true
  | .iir _ => false
  | .completion _ => false

/-- THR(b). -/
def Action.isThr : Action → Bool
  | .thr _ => true
  | _ => false

/-- DMA_PROGRAM(…). -/
def Action.isDmaProgram : Action → Bool
  | .dmaProgram _ => true
  | _ => false

/-- CALLBACK(mask). -/
def Action.isCallback : Action → Bool
  | .callback _ => true
  | _ => false

/-- The ranges of the registers: R31 (the divisor triple), R28 (MODE and PAR), R144 (the mode's capability), R126 (BAUD),
R261 (RESULT). -/
structure State.Ranges (s : State) : Prop where
  divLow : 1 ≤ s.div.toNat
  divHigh : s.div.toNat ≤ 65536
  mulval : 1 ≤ s.mulval.toNat
  divaddval : s.divaddval.toNat < s.mulval.toNat
  mode : ∃ m, modeOfBits (cfgMode s.cfg) = some m ∧ modeCap s.params.cap m = true
  par : cfgPar s.cfg ≠ 3
  baud : s.baud.toNat < 2 ^ 28
  result : s.result.toNat ≤ 11

/-- The invariants of R43 and R44, by their letters there. `i_j` is the clause the rules keep (log 15): R44 states it for
TX_SRC and RX_DST of a side that is idle too. `tag` is what makes I-c inductive (DEDUCED, from R228). -/
structure State.Coupled (s : State) : Prop where
  i_c : s.syncTag ≠ .none → s.sendActive = true ∨ s.rxBusy = true
  i_e_tx : s.txCnt.toNat ≤ s.txNum.toNat
  i_e_rx : s.rxCnt.toNat ≤ s.rxNum.toNat
  i_f : s.three = true → s.sendActive = true ∧ s.params.txDma = none
  i_g : s.rxe = true → s.rxBusy = true ∧ s.params.rxDma = none ∧ s.rxCnt.toNat < s.rxNum.toNat
  i_h : s.rlse = true → s.rxBusy = true
  i_i : s.sendActive = true ∨ s.rxBusy = true → s.lc = .configured
  i_j_tag : s.syncTag ≠ .none → s.sync = true
  i_j_tx : s.sendActive = true → s.txSrc = .fill → s.sync = true
  i_j_rx : s.rxBusy = true → s.rxDst = .discard → s.sync = true
  i_k_tx : s.sendActive = true → 1 ≤ s.txNum.toNat
  i_k_rx : s.rxBusy = true → 1 ≤ s.rxNum.toNat
  i_l : s.mse = true → s.params.hasModem = true ∧ s.lc.isPowered = true
  tagTx : s.syncTag = .txOnly → s.sendActive = true
  tagRx : s.syncTag = .rxOnly → s.rxBusy = true

/-- The invariant every step keeps. -/
structure State.Inv (s : State) : Prop where
  ranges : s.Ranges
  coupled : s.Coupled

/-- I-j of R44 as it is written there: with no condition that the side is busy. The rules do not keep it (log 15). -/
structure State.FillOnlyInSync (s : State) : Prop where
  tag : s.syncTag ≠ .none → s.sync = true
  tx : s.txSrc = .fill → s.sync = true
  rx : s.rxDst = .discard → s.sync = true

/-- The IER bit that enables an interrupt-id code (R267); a code that names no source needs none. -/
def State.enables (s : State) : Instr → Bool
  | .irqThre => s.three
  | .irqRls => s.rlse
  | .irqRda => s.rxe
  | .irqCti => s.rxe
  | .irqMs => s.mse
  | _ => true

/-- The peripheral keeps its duty (R300: it raises only sources IER enables) and the engine the part of R301 the block can
see (a completion comes only on a channel with a transfer outstanding). -/
def State.dutiful (s : State) : Instr → Bool
  | .dmaTxOk => s.engineBusy .tx
  | .dmaTxError => s.engineBusy .tx
  | .dmaRxOk => s.engineBusy .rx
  | .dmaRxError => s.engineBusy .rx
  | i => s.enables i

end Sys2Proof.Machine
end

