-- ==== Sys2Proof/Certificates/Slice0/Obligations.lean ====
section
/-! DEFINITION. The statements for the provers. `Sys2Proof.Expected` says in the spec's own terms (numbers, bit fields, lists of
actions) what each instruction leaves behind; every `Obligations.<Name>` compares the model with it. A whole next state
given as an update of the state before says the frame too: a field that is not named is unchanged. -/

namespace Sys2Proof.Expected

open Sys2Proof.Machine

/-- SYNC (10_state.md R29): MODE, CFG[2:0], is 1 or 2. -/
def inSync (s : State) : Bool := s.cfg.extractLsb' 0 3 = 1 ∨ s.cfg.extractLsb' 0 3 = 2

/-- LC ∈ {POWERED, CONFIGURED} (R26). -/
def powered (s : State) : Bool := s.lc = .powered ∨ s.lc = .configured

/-- A command that fails (00_scope.md R13): RESULT alone. -/
def failed (s : State) (code : BitVec 8) : State := { s with result := code }

/-- Every field RUNTIME_CLEAR names (41_lifecycle.md R140). -/
def cleared (s : State) : State :=
  { s with
    sendActive := false, txBuf := 0, txNum := 0, txCnt := 0, txSrc := .buffer
    rxBusy := false, rxBuf := 0, rxNum := 0, rxCnt := 0, rxDst := .buffer
    syncTag := .none
    rxOverflow := false, rxBreak := false, rxFraming := false, rxParity := false
    cfg := 0, baud := 0, txFill := 0, ier := 0 }

/-- What ABORT_TX emits (42_transfer.md R175). -/
def stopTx (s : State) : List Action :=
  (match s.sendActive, s.params.txDma with
    | true, some ch => [.dmaDisable ch]
    | _, _ => []) ++ if powered s then [.fifoReset .tx] else []

/-- What ABORT_RX emits (R176). -/
def stopRx (s : State) : List Action :=
  (match s.rxBusy, s.params.rxDma with
    | true, some ch => [.dmaDisable ch]
    | _, _ => []) ++ if powered s then [.fifoReset .rx] else []

/-! The boundary commands (41_lifecycle.md). -/

def afterInitialise (s : State) : State :=
  if 2 ≤ s.arg0.toNat then failed s 1
  else if s.lc = .powered ∨ s.lc = .configured then failed s 10
  else if s.lc = .initialized then { s with result := 0 }
  else { cleared s with cbReg := s.arg0 = 1, lc := .initialized, result := 0 }

def afterUninitialize (s : State) : State :=
  { cleared s with
    cbReg := false, lc := .unpowered, result := 0
    out := if powered s then s.out ++ stopTx s ++ stopRx s else s.out }

def afterPowerControl (s : State) : State :=
  if 3 ≤ s.arg0.toNat then failed s 1
  else if s.arg0 = 1 then failed s 6
  else if s.arg0 = 0 then
    if powered s then
      { s with
        lc := .initialized, sendActive := false, rxBusy := false, syncTag := .none, ier := 0, result := 0
        out := s.out ++ stopTx s ++ stopRx s }
    else { s with result := 0 }
  else if s.lc = .unpowered then failed s 2
  else if s.sendActive ∨ s.rxBusy then failed s 5
  else
    { s with
      ier := if s.params.cap.cts ∨ s.params.cap.dsr ∨ s.params.cap.dcd ∨ s.params.cap.ri then 0b1000 else 0b0000
      lc := .powered, result := 0 }

/-- MODE_CAP (R144). -/
def modeCap (c : Cap) (mode : BitVec 3) : Bool :=
  mode = 0 ∨ mode = 1 ∧ c.syncMaster ∨ mode = 2 ∧ c.syncSlave ∨ mode = 3 ∧ c.singleWire ∨ mode = 4 ∧ c.irda ∨
    mode = 5 ∧ c.smartCard

/-- The registers CONFIGURE commits, or the code of the solver's failure (R144, 40_baud_solver.md R125, R127, R128). -/
def committed (s : State) (r : SolveResult) : State :=
  match r with
  | .noDivisor => failed s 8
  | .outOfTolerance => failed s 7
  | .ok m d dv a =>
    { s with
      cfg := s.arg1.extractLsb' 0 10, div := BitVec.ofNat 17 dv, mulval := BitVec.ofNat 4 m
      divaddval := BitVec.ofNat 4 d, baud := BitVec.ofNat 32 a, lc := .configured, result := 0 }

def afterConfigure (s : State) : State :=
  if ¬powered s then failed s 3
  else if 6 ≤ (s.arg1.extractLsb' 0 3).toNat then failed s 1
  else if ¬modeCap s.params.cap (s.arg1.extractLsb' 0 3) then failed s 6
  else if s.sendActive ∨ s.rxBusy then failed s 5
  else if 2 ^ 10 ≤ s.arg1.toNat ∨ s.arg1.extractLsb' 5 2 = 3 then failed s 1
  else if (s.arg1.extractLsb' 0 3 = 1 ∨ s.arg1.extractLsb' 0 3 = 2) ∧
      ¬s.params.clockOk (s.arg1.extractLsb' 0 3) (s.arg1.getLsbD 8) (s.arg1.getLsbD 9) then failed s 9
  else if s.arg0 = 0 then failed s 1
  else committed s (solve s.params.tolPct s.pclk.toNat s.arg0.toNat)

def afterSetTxFill (s : State) : State :=
  if ¬powered s then failed s 3
  else if 2 ^ 8 ≤ s.arg0.toNat then failed s 1
  else { s with txFill := s.arg0.extractLsb' 0 8, result := 0 }

/-! The solver (40_baud_solver.md). -/

/-- A pair (m, d) of R121's ranges whose divisor is in [1, 65536] (R123). -/
def candidate (f b m d : Nat) : Prop :=
  1 ≤ m ∧ m ≤ 15 ∧ d < m ∧ 1 ≤ solverDivisor f b m d ∧ solverDivisor f b m d ≤ 65536

/-- (m, d) comes before (m', d') in R121's order. -/
def before (m d m' d' : Nat) : Prop := m < m' ∨ m = m' ∧ d < d'

/-- (m, d) is the candidate the search keeps (R124): no candidate has a smaller error, and none before it has an equal one. -/
def winner (f b m d : Nat) : Prop :=
  candidate f b m d ∧
    ∀ m' d', candidate f b m' d' →
      solverError f b m d ≤ solverError f b m' d' ∧
        (before m' d' m d → solverError f b m d < solverError f b m' d')

/-- The achieved baud of R126. -/
def achieved (f b m d : Nat) : Nat := f * m / (16 * solverDivisor f b m d * (m + d))

/-- The tolerance test of R127. -/
def outside (tol f b m d : Nat) : Prop := 100 * ((achieved f b m d : Int) - b).natAbs > tol * b

/-! Bytes of the data memory (20_memory.md). -/

/-- The byte at `a`: TX_FILL at FILL_ADDR (R76), elsewhere what the memory holds (R68; log 26 for DUMP_ADDR). -/
def byteAt (s : State) (a : Addr) : Byte := if a = s.params.fillAddr then s.txFill else Memory.read s.mem a.toNat

/-- `a` is (TX_BUF + i) mod 2^32 for an i < TX_NUM of an outstanding TX transfer (70_reset_and_hazards.md R296). -/
def sends (s : State) (a : Addr) : Prop :=
  s.sendActive = true ∧ s.txSrc = .buffer ∧ (a - s.txBuf).toNat < s.txNum.toNat

/-- `a` is (RX_BUF + i) mod 2^32 for an i < RX_NUM of an outstanding RX transfer (R297). -/
def receives (s : State) (a : Addr) : Prop :=
  s.rxBusy = true ∧ s.rxDst = .buffer ∧ (a - s.rxBuf).toNat < s.rxNum.toNat

/-- Not a byte below RX_CNT in the interrupt path, which is known (R297, U2). -/
def unsettled (s : State) (a : Addr) : Prop := s.params.rxDma = none → s.rxCnt.toNat ≤ (a - s.rxBuf).toNat

/-- `a` is on the record `u` of bytes whose content an access to an outstanding receive left unknown (R72, U2; log 9). -/
def onRecord (u : List Span) (a : Addr) : Prop := ∃ x ∈ u, x.lo ≤ a.toNat ∧ a.toNat < x.hi

/-- The block may read any value at `a` (U2): the byte is on record, or an outstanding receive owns it and no TRANSFER does
(in a synchronous mode U12 holds instead). -/
def freeToBlock (s : State) (a : Addr) : Prop :=
  a ≠ s.params.fillAddr ∧ (onRecord s.unknown a ∨ inSync s = false ∧ receives s a ∧ unsettled s a)

/-- The host may read any value at `a` (U2, R297): the byte is on record, or an outstanding receive owns it. -/
def freeToHost (s : State) (a : Addr) : Prop :=
  a ≠ s.params.fillAddr ∧ (onRecord s.unknown a ∨ receives s a ∧ unsettled s a)

/-- `b` is a value the block may read at `a` (R68, R72): a free one, what the memory holds, or what it held before a write
raced with the transfer; at FILL_ADDR the TX_FILL of now or of that write (R76 and R72; log 26). -/
def mayRead (s : State) (a : Addr) (b : Byte) : Prop :=
  freeToBlock s a ∨ b = byteAt s a ∨ (a.toNat, b) ∈ s.stale

/-- `u` is the record of `s` after the block has read the bytes at `as`: where one of them lies in the buffer of an
outstanding receive, that buffer is unknown (R72, U2). -/
def afterReading (s : State) (as : List Addr) (u : List Span) : Prop :=
  ∀ a, onRecord u a ↔
    onRecord s.unknown a ∨ inSync s = false ∧ (∃ b ∈ as, receives s b) ∧ receives s a ∧ unsettled s a

/-! The start commands (42_transfer.md). -/

/-- What arming TX emits (R173): one request, or up to 16 characters, each buffer byte read just before it is written; `bs`
are the bytes read. -/
def txStart (s : State) (src : TxSource) (buf : Addr) (len : Word) (bs : List Byte) : List Action :=
  match s.params.txDma with
  | some ch => [.dmaProgram ⟨ch, buf, s.params.thrAddr, len, src = .buffer, false⟩]
  | none =>
    (List.range (min 16 len.toNat)).flatMap fun i =>
      match src with
      | .fill => [.thr s.txFill]
      | .buffer => [.memRead (buf + BitVec.ofNat 32 i), .thr (bs.getD i 0)]

/-- What arming TX may read (R173, R170): in the interrupt path the bytes `bs` of the buffer, which no one has raced for yet,
after which the model's own records are `d` and `u`; in the engine path nothing. -/
def txReads (s : State) (buf : Addr) (len : Word) (bs : List Byte) (d : Nat) (u : List Span) : Prop :=
  match s.params.txDma with
  | some _ => d = s.draws ∧ u = s.unknown
  | none =>
    (∀ i < min 16 len.toNat,
      freeToBlock s (buf + BitVec.ofNat 32 i) ∨ bs.getD i 0 = byteAt s (buf + BitVec.ofNat 32 i)) ∧
    afterReading s ((List.range (min 16 len.toNat)).map fun i => buf + BitVec.ofNat 32 i) u

/-- The platform admits what arming TX asks for (20_memory.md R66, R75). -/
def txAdmitted (s : State) (src : TxSource) (buf : Addr) (len : Word) : Prop :=
  match s.params.txDma with
  | some ch => s.params.dmaAdmits ⟨ch, buf, s.params.thrAddr, len, src = .buffer, false⟩ = true
  | none => src = .buffer → ∀ i < min 16 len.toNat, s.params.memAdmits .read (buf + BitVec.ofNat 32 i) = true

/-- A TX side set up and armed (R171, R173), with the bytes `bs` read. `stale`, `draws` and `unknown` are the model's own
fields: the record of raced bytes starts empty (log 9). -/
def startedTx (s : State) (src : TxSource) (buf : Addr) (len : Word) (bs : List Byte) (d : Nat) (u : List Span) : State :=
  { s with
    sendActive := true, txSrc := src, txBuf := buf, txNum := len
    txCnt := match s.params.txDma with
      | some _ => 0
      | none => BitVec.ofNat 32 (min 16 len.toNat)
    ier := match s.params.txDma with
      | some _ => s.ier
      | none => s.ier ||| 0b0010
    stale := [], draws := d, unknown := u
    out := s.out ++ txStart s src buf len bs }

/-- The platform admits what arming RX asks for (R75). -/
def rxAdmitted (s : State) (dst : RxDest) (buf : Addr) (len : Word) : Prop :=
  match s.params.rxDma with
  | some ch => s.params.dmaAdmits ⟨ch, s.params.rbrAddr, buf, len, false, dst = .buffer⟩ = true
  | none => True

/-- An RX side set up and armed (R172, R174). -/
def startedRx (s : State) (dst : RxDest) (buf : Addr) (len : Word) : State :=
  { s with
    rxBusy := true, rxDst := dst, rxBuf := buf, rxNum := len, rxCnt := 0
    rxOverflow := false, rxBreak := false, rxFraming := false, rxParity := false
    ier := match s.params.rxDma with
      | some _ => s.ier ||| 0b0100
      | none => s.ier ||| 0b0101
    out := s.out ++ match s.params.rxDma with
      | some ch => [.dmaProgram ⟨ch, s.params.rbrAddr, buf, len, false, dst = .buffer⟩]
      | none => [] }

/-- Which check of SEND fails first, if any (R180, R177). -/
def sendRefusal (s : State) : Option (BitVec 8) :=
  if s.arg0 = 0 ∨ s.arg1 = 0 then some 1
  else if s.lc ≠ .configured then some 4
  else if s.sendActive ∨ inSync s ∧ s.rxBusy then some 5
  else none

def sendAdmitted (s : State) : Prop :=
  (inSync s → rxAdmitted s .discard s.params.dumpAddr s.arg1) ∧ txAdmitted s .buffer s.arg0 s.arg1

/-- An accepted SEND (R180). -/
def afterSend (s : State) (bs : List Byte) (d : Nat) (u : List Span) : State :=
  if inSync s then
    { startedTx (startedRx s .discard s.params.dumpAddr s.arg1) .buffer s.arg0 s.arg1 bs d u with
      syncTag := .txOnly, result := 0 }
  else { startedTx s .buffer s.arg0 s.arg1 bs d u with result := 0 }

/-- Which check of RECEIVE fails first, if any (R181, R177). -/
def receiveRefusal (s : State) : Option (BitVec 8) :=
  if s.arg0 = 0 ∨ s.arg1 = 0 then some 1
  else if s.lc ≠ .configured then some 4
  else if s.rxBusy ∨ inSync s ∧ s.sendActive then some 5
  else none

def receiveAdmitted (s : State) : Prop :=
  rxAdmitted s .buffer s.arg0 s.arg1 ∧ (inSync s → txAdmitted s .fill s.params.fillAddr s.arg1)

def afterReceive (s : State) : State :=
  match receiveRefusal s with
  | some code => failed s code
  | none =>
    if inSync s then
      { startedTx (startedRx s .buffer s.arg0 s.arg1) .fill s.params.fillAddr s.arg1 [] s.draws s.unknown with
        syncTag := .rxOnly, result := 0 }
    else { startedRx s .buffer s.arg0 s.arg1 with result := 0 }

/-- Which check of TRANSFER fails first, if any (R182). -/
def transferRefusal (s : State) : Option (BitVec 8) :=
  if s.arg0 = 0 ∨ s.arg1 = 0 ∨ s.arg2 = 0 then some 1
  else if s.lc ≠ .configured then some 4
  else if ¬inSync s then some 10
  else if s.sendActive ∨ s.rxBusy then some 5
  else none

def transferAdmitted (s : State) : Prop := rxAdmitted s .buffer s.arg1 s.arg2 ∧ txAdmitted s .buffer s.arg0 s.arg2

/-- An accepted TRANSFER (R182). -/
def afterTransfer (s : State) (bs : List Byte) (d : Nat) (u : List Span) : State :=
  { startedTx (startedRx s .buffer s.arg1 s.arg2) .buffer s.arg0 s.arg2 bs d u with syncTag := .txAndRx, result := 0 }

/-- The step is stuck or has no step (20_memory.md R66, R75): by name. -/
def notAdmitted (o : Host.Outcome State Fault Refusal) : Prop :=
  (∃ dir a, o = .fault (.memNotAdmitted dir a)) ∨ ∃ r, o = .refused (.dmaNotAdmitted r)

/-! The aborts (42_transfer.md). -/

/-- The TX side stopped (R175). -/
def stoppedTx (s : State) : State :=
  { s with ier := s.ier &&& 0b1101, sendActive := false, out := s.out ++ stopTx s }

/-- The RX side stopped (R176). -/
def stoppedRx (s : State) : State :=
  { s with ier := s.ier &&& 0b1010, rxBusy := false, out := s.out ++ stopRx s }

/-! The dispatches (43_dispatcher.md). -/

/-- DELIVER (R229): the CALLBACK that ends the step, if any. -/
def delivered (s : State) (mask : EventMask) : List Action :=
  if s.cbReg = true ∧ mask ≠ 0 then [.callback mask] else []

/-- The event COMPLETE posts for a side that has just ended in `s` (R228). -/
def completeMask (side : Side) (s : State) : EventMask :=
  match side with
  | .tx =>
    if inSync s then
      if s.syncTag = .txOnly then 0x1 else if s.syncTag = .txAndRx ∧ s.rxBusy = false then 0x4 else 0
    else 0x1
  | .rx =>
    if inSync s then
      if s.syncTag = .rxOnly then 0x2 else if s.syncTag = .txAndRx ∧ s.sendActive = false then 0x4 else 0
    else 0x2

/-- SYNC_TAG after COMPLETE (R228): consumed exactly if an event is posted. -/
def completeTag (side : Side) (s : State) : SyncTag :=
  if inSync s ∧ completeMask side s ≠ 0 then .none else s.syncTag

/-- How many characters a THRE dispatch writes (R222); none where TX_CNT is above TX_NUM (log 17). -/
def refill (s : State) : Nat := min 16 (s.txNum.toNat - s.txCnt.toNat)

/-- The address of the `j`-th of them (R170, R65). -/
def refillAddr (s : State) (j : Nat) : Addr := s.txBuf + (s.txCnt + BitVec.ofNat 32 j)

/-- `b` is a value the `j`-th of them may have (R170): TX_FILL, or a byte the block may read. -/
def maySend (s : State) (j : Nat) (b : Byte) : Prop :=
  match s.txSrc with
  | .fill => b = s.txFill
  | .buffer => mayRead s (refillAddr s j) b

/-- The model's record `u` of unknown bytes after the refill: a dummy character reads nothing (R170). -/
def refillRecord (s : State) (u : List Span) : Prop :=
  match s.txSrc with
  | .fill => u = s.unknown
  | .buffer => afterReading s ((List.range (refill s)).map (refillAddr s)) u

/-- The actions that write the characters `bs` (R170, R222). -/
def refillActions (s : State) (bs : List Byte) : List Action :=
  (List.range bs.length).flatMap fun j =>
    match s.txSrc with
    | .fill => [.thr (bs.getD j 0)]
    | .buffer => [.memRead (refillAddr s j), .thr (bs.getD j 0)]

/-- The events of R223. -/
def rlsMask (s : State) : EventMask :=
  (if s.lsr.getLsbD 1 then 0x20 else 0) |||
  (if s.lsr.getLsbD 1 ∧ s.cfg.extractLsb' 0 3 = 2 ∧ s.sendActive then 0x10 else 0) |||
  (if s.lsr.getLsbD 2 then 0x200 else 0) |||
  (if s.lsr.getLsbD 4 then 0x80 else if s.lsr.getLsbD 3 then 0x100 else 0)

/-- How many characters a drain reads (R224); none where RX_CNT is above RX_NUM (log 17). -/
def drainCount (s : State) : Nat := min s.fifo.length (s.rxNum.toNat - s.rxCnt.toNat)

/-- The drain reaches the requested count (R224). -/
def drainEnds (s : State) : Bool := s.rxCnt.toNat + drainCount s = s.rxNum.toNat

/-- The address the `j`-th drained character is stored at (R224, R65). -/
def drainAddr (s : State) (j : Nat) : Addr := s.rxBuf + (s.rxCnt + BitVec.ofNat 32 j)

/-- The platform admits every store of the drain (R66). -/
def drainAdmitted (s : State) : Prop :=
  s.rxDst = .buffer → ∀ j < drainCount s, s.params.memAdmits .write (drainAddr s j) = true

/-- What a drain emits (R224). -/
def drainActions (s : State) : List Action :=
  (List.range (drainCount s)).flatMap fun j =>
    match s.rxDst with
    | .buffer => [.rxRead, .memWrite (drainAddr s j) (s.fifo.getD j 0)]
    | .discard => [.rxRead]

/-- `a` is an address a drain stores to (R224, R65); at DUMP_ADDR the store is discarded (R76; log 11 for the block's own). -/
def drainsTo (s : State) (a : Addr) : Prop :=
  s.rxDst = .buffer ∧ (a - drainAddr s 0).toNat < drainCount s ∧ a ≠ s.params.dumpAddr

/-- A byte of the data memory after a drain (R224, R76): the character stored there, or what it was. -/
def drainedByte (s : State) (a : Addr) : Byte :=
  if s.rxDst = .buffer ∧ (a - drainAddr s 0).toNat < drainCount s ∧ a ≠ s.params.dumpAddr then
    s.fifo.getD (a - drainAddr s 0).toNat 0
  else s.mem.read a.toNat

/-- `t` is `s` after a drain whose events are `mask`: registers, outputs, what is left of the FIFO input (log 16), every byte
of memory; and in the interrupt path the bytes stored are known (R297, U2). Of the model's record of raced bytes
(`stale`, `draws`) nothing is said. -/
def drained (s t : State) (mask : EventMask) : Prop :=
  t = { s with
      rxCnt := s.rxCnt + BitVec.ofNat 32 (drainCount s)
      fifo := s.fifo.drop (drainCount s)
      ier := if drainEnds s then s.ier &&& 0b1010 else s.ier
      rxBusy := if drainEnds s then false else s.rxBusy
      syncTag := if drainEnds s then completeTag .rx s else s.syncTag
      out := s.out ++ drainActions s ++ delivered s mask
      mem := t.mem
      stale := t.stale
      draws := t.draws
      unknown := t.unknown } ∧
    (Memory.wf s.mem = true → ∀ a : Addr, t.mem.read a.toNat = drainedByte s a) ∧
    (s.params.rxDma = none → ∀ a : Addr, onRecord t.unknown a ↔ onRecord s.unknown a ∧ ¬drainsTo s a)

/-- The events of R226. -/
def msMask (s : State) : EventMask :=
  (if s.msr.getLsbD 0 ∧ s.params.cap.eventCts then 0x400 else 0) |||
  (if s.msr.getLsbD 1 ∧ s.params.cap.eventDsr then 0x800 else 0) |||
  (if s.msr.getLsbD 2 ∧ s.params.cap.eventRi then 0x2000 else 0) |||
  (if s.msr.getLsbD 3 ∧ s.params.cap.eventDcd then 0x1000 else 0)

/-! Whole-machine rules. -/

/-- The codes a command can answer with (60_exceptions.md R262, and 0). -/
def codes : Instr → List (BitVec 8)
  | .initialise => [0, 1, 10]
  | .powerControl => [0, 1, 2, 5, 6]
  | .configure => [0, 1, 3, 5, 6, 7, 8, 9]
  | .setTxFill => [0, 1, 3]
  | .send => [0, 1, 4, 5]
  | .receive => [0, 1, 4, 5]
  | .transfer => [0, 1, 4, 5, 10]
  | _ => [0]

/-- LC after a command that succeeds (41_lifecycle.md R147). -/
def lcAfter (i : Instr) (s : State) : Lifecycle :=
  match i with
  | .initialise => .initialized
  | .uninitialize => .unpowered
  | .powerControl => if s.arg0 = 0 then (if powered s then .initialized else s.lc) else .powered
  | .configure => .configured
  | _ => s.lc

/-- Which argument registers an instruction reads (30_encoding.md R89). -/
def reads : Instr → Bool × Bool × Bool
  | .initialise => (true, false, false)
  | .powerControl => (true, false, false)
  | .configure => (true, true, false)
  | .setTxFill => (true, false, false)
  | .send => (true, true, false)
  | .receive => (true, true, false)
  | .transfer => (true, true, true)
  | _ => (false, false, false)

/-- `s` with other values in the argument registers that `i` does not read. -/
def otherArgs (i : Instr) (a b c : Word) (s : State) : State :=
  { s with
    arg0 := if (reads i).1 then s.arg0 else a
    arg1 := if (reads i).2.1 then s.arg1 else b
    arg2 := if (reads i).2.2 then s.arg2 else c }

/-- `p` with the parameters that no rule reads (10_state.md R24, 00_scope.md R7) taken from `q`. -/
def otherParams (q p : Params) : Params :=
  { p with
    cap := { p.cap with
      smartCardClock := q.cap.smartCardClock, eventTxComplete := q.cap.eventTxComplete
      eventRxTimeout := q.cap.eventRxTimeout, rts := q.cap.rts, dtr := q.cap.dtr }
    regBase := q.regBase, rxTrigger := q.rxTrigger }

/-- The outcome with its next state, if it has one, changed by `f`. -/
def onNext (f : State → State) (o : Host.Outcome State Fault Refusal) : Host.Outcome State Fault Refusal :=
  match o with
  | .next t => .next (f t)
  | .fault r => .fault r
  | .refused r => .refused r

/-- The dispatches of a list, in order, each with its FIFO input. -/
def dispatches : List (Instr × List Byte) → State → Host.Outcome State Fault Refusal
  | [], s => .next s
  | (i, cs) :: rest, s =>
    match exec i { s with fifo := cs } with
    | .next t => dispatches rest t
    | .fault r => .fault r
    | .refused r => .refused r

/-- How many characters the receive dispatches of a list bring. -/
def brought (inputs : List (Instr × List Byte)) : Nat :=
  ((inputs.filter fun p => p.1 ≠ .irqThre).map fun p => p.2.length).sum

/-- How many THRE dispatches a list has. -/
def thres (inputs : List (Instr × List Byte)) : Nat := (inputs.filter fun p => p.1 = .irqThre).length

/-- A CALLBACK whose mask has an event of `bits` (10_state.md R42). -/
def reports (bits : EventMask) : Action → Bool
  | .callback m => m &&& bits ≠ 0
  | _ => false

/-- A memory access that is foreign to the RX transfer owning `a`: the host's, or the engine's where it does not serve that
transfer (R72, R70). -/
def foreign (s : State) (agent : MemAgent) (a : Addr) : Prop :=
  receives s a ∧ (agent = .host ∨ s.params.rxDma = none)

end Sys2Proof.Expected

open Sys2Proof Sys2Proof.Machine

/-! ## Encoding -/

/-- Every instruction has exactly one code word, and every code word at most one instruction (30_encoding.md R85 to R97). For
NONE, of which R93 gives the eight codes xxx1, this rests on the model's choice that irqNone carries IIR[3:1] (log 25). -/
def Obligations.DecodeEncode : Prop :=
  ∀ (c : CodeWord) (i : Instr), decode c = .ok i ↔ encode i = c

/-- 30_encoding.md R88, R87: which command words are illegal, and that one writes RESULT and changes nothing else. -/
def Obligations.IllegalCommandWord : Prop :=
  ∀ (s : State) (rest : List Request) (w p : Word),
    s.pending = .hostWrite 0x00 4 w p :: rest →
    (w.extractLsb' 8 24 ≠ 0 ∨ w.extractLsb' 0 8 = 0x00 ∨
      0x06 ≤ (w.extractLsb' 0 8).toNat ∧ (w.extractLsb' 0 8).toNat ≤ 0x0F ∨ 0x19 ≤ (w.extractLsb' 0 8).toNat) →
    step s = .next { s with pending := rest, result := 11 }

/-- 30_encoding.md R87: the opcode map, word by word. -/
def Obligations.OpcodeMap : Prop :=
  decode (.command 0x00000001) = .ok .initialise ∧ decode (.command 0x00000002) = .ok .uninitialize ∧
  decode (.command 0x00000003) = .ok .powerControl ∧ decode (.command 0x00000004) = .ok .configure ∧
  decode (.command 0x00000005) = .ok .setTxFill ∧ decode (.command 0x00000010) = .ok .send ∧
  decode (.command 0x00000011) = .ok .receive ∧ decode (.command 0x00000012) = .ok .transfer ∧
  decode (.command 0x00000013) = .ok .getTxCount ∧ decode (.command 0x00000014) = .ok .getRxCount ∧
  decode (.command 0x00000015) = .ok .getStatus ∧ decode (.command 0x00000016) = .ok .abortSend ∧
  decode (.command 0x00000017) = .ok .abortReceive ∧ decode (.command 0x00000018) = .ok .abortTransfer

/-- 30_encoding.md R93 and R97: the interrupt-id codes and the completion codes. -/
def Obligations.DispatchCodes : Prop :=
  (∀ id : BitVec 3, decode (.iir (id ++ 1#1)) = .ok (.irqNone id)) ∧
  decode (.iir 0b0010) = .ok .irqThre ∧ decode (.iir 0b0110) = .ok .irqRls ∧ decode (.iir 0b0100) = .ok .irqRda ∧
  decode (.iir 0b1100) = .ok .irqCti ∧ decode (.iir 0b0000) = .ok .irqMs ∧ decode (.iir 0b1000) = .ok .irqReserved8 ∧
  decode (.iir 0b1010) = .ok .irqReservedA ∧ decode (.iir 0b1110) = .ok .irqReservedE ∧
  decode (.completion 0b00) = .ok .dmaTxOk ∧ decode (.completion 0b01) = .ok .dmaRxOk ∧
  decode (.completion 0b10) = .ok .dmaTxError ∧ decode (.completion 0b11) = .ok .dmaRxError

/-! ## The step -/

/-- A step runs the instruction the next request carries, on the state without that request and with its inputs (log 3, log 4): a
host write of a legal word to CMD (R86), an IRQ dispatch (R220), a DMA dispatch (R230). -/
def Obligations.StepRunsInstruction : Prop :=
  ∀ (s : State) (rest : List Request),
    (∀ w p i, s.pending = .hostWrite 0x00 4 w p :: rest → decode (.command w) = .ok i →
      step s = exec i { s with pending := rest, pclk := p }) ∧
    (∀ c l m f i, s.pending = .irq c l m f :: rest → decode (.iir c) = .ok i →
      step s = exec i { s with pending := rest, lsr := l, msr := m, fifo := f }) ∧
    (∀ c i, s.pending = .dma c :: rest → decode (.completion c) = .ok i →
      step s = exec i { s with pending := rest })

/-- 10_state.md R39, 20_memory.md R71: a host write to ARG0, ARG1 or ARG2 stores the word, and one to any other offset but CMD
changes nothing. -/
def Obligations.HostWrites : Prop :=
  ∀ (s : State) (rest : List Request) (k : Nat) (w p : Word),
    k < 32 → s.pending = .hostWrite (BitVec.ofNat 7 (4 * k)) 4 w p :: rest →
    (k = 1 → step s = .next { s with pending := rest, arg0 := w }) ∧
    (k = 2 → step s = .next { s with pending := rest, arg1 := w }) ∧
    (k = 3 → step s = .next { s with pending := rest, arg2 := w }) ∧
    (4 ≤ k → step s = .next { s with pending := rest })

/-- 10_state.md R39: what a host read of each aligned offset returns, and that it changes nothing of the block. `rdata` holds the
value returned. -/
def Obligations.HostReads : Prop :=
  ∀ (s : State) (rest : List Request) (k : Nat),
    k < 32 → s.pending = .hostRead (BitVec.ofNat 7 (4 * k)) 4 :: rest →
    ∃ v : Word, step s = .next { s with pending := rest, rdata := v } ∧
      (k = 0x00 / 4 → v = 0) ∧ (k = 0x04 / 4 → v = s.arg0) ∧ (k = 0x08 / 4 → v = s.arg1) ∧
      (k = 0x0C / 4 → v = s.arg2) ∧ (k = 0x10 / 4 → v.toNat = s.result.toNat) ∧ (k = 0x14 / 4 → v = s.rval) ∧
      (k = 0x18 / 4 → v = s.stateView) ∧ (k = 0x1C / 4 → v.toNat = s.div.toNat) ∧
      (k = 0x20 / 4 → v.toNat = s.divaddval.toNat + 16 * s.mulval.toNat) ∧ (k = 0x24 / 4 → v = s.baud) ∧
      (k = 0x28 / 4 → v.toNat = s.ier.toNat) ∧ (k = 0x2C / 4 → v.toNat = s.txFill.toNat) ∧
      (k = 0x30 / 4 → v = s.txBuf) ∧ (k = 0x34 / 4 → v = s.txNum) ∧ (k = 0x38 / 4 → v = s.txCnt) ∧
      (k = 0x3C / 4 → v = s.rxBuf) ∧ (k = 0x40 / 4 → v = s.rxNum) ∧ (k = 0x44 / 4 → v = s.rxCnt) ∧
      (k = 0x48 / 4 → v.toNat = s.rxOverflow.toNat + 2 * s.rxBreak.toNat + 4 * s.rxFraming.toNat + 8 * s.rxParity.toNat) ∧
      (0x4C / 4 ≤ k → v = 0)

/-- 10_state.md R40: the fields of the STATE view register, those of R26, R33, R34 and R35 by their values there. -/
def Obligations.StateViewFields : Prop :=
  ∀ s : State,
    (s.stateView.extractLsb' 0 2 = match s.lc with
      | .unpowered => 0
      | .initialized => 1
      | .powered => 2
      | .configured => 3) ∧
    s.stateView.getLsbD 2 = s.cbReg ∧ s.stateView.getLsbD 3 = s.sendActive ∧ s.stateView.getLsbD 4 = s.rxBusy ∧
    (s.stateView.extractLsb' 5 2 = match s.syncTag with
      | .none => 0
      | .txOnly => 1
      | .rxOnly => 2
      | .txAndRx => 3) ∧
    (s.stateView.extractLsb' 7 1 = match s.txSrc with
      | .buffer => 0
      | .fill => 1) ∧
    (s.stateView.extractLsb' 8 1 = match s.rxDst with
      | .buffer => 0
      | .discard => 1) ∧
    s.stateView.extractLsb' 9 10 = s.cfg ∧ s.stateView.extractLsb' 19 13 = 0

/-- 20_memory.md R64: a host access that is not a whole 32-bit word at a multiple of 4 has no step. -/
def Obligations.MisalignedAccessRefused : Prop :=
  ∀ (s : State) (rest : List Request) (off : BitVec 7) (bytes : Nat),
    bytes ≠ 4 ∨ off.toNat % 4 ≠ 0 →
    (∀ w p, s.pending = .hostWrite off bytes w p :: rest → step s = .refused (.hostAccessNotWord off bytes)) ∧
    (s.pending = .hostRead off bytes :: rest → step s = .refused (.hostAccessNotWord off bytes))

/-- 10_state.md R49: the reset value of every register. -/
def Obligations.ResetValues : Prop :=
  State.reset.lc = .unpowered ∧ State.reset.cbReg = false ∧ State.reset.cfg = 0 ∧ State.reset.txFill = 0x00 ∧
  State.reset.div = 1 ∧ State.reset.mulval = 1 ∧ State.reset.divaddval = 0 ∧ State.reset.baud = 0 ∧
  State.reset.sendActive = false ∧ State.reset.txBuf = 0 ∧ State.reset.txNum = 0 ∧ State.reset.txCnt = 0 ∧
  State.reset.txSrc = .buffer ∧ State.reset.rxBusy = false ∧ State.reset.rxBuf = 0 ∧ State.reset.rxNum = 0 ∧
  State.reset.rxCnt = 0 ∧ State.reset.rxDst = .buffer ∧ State.reset.syncTag = .none ∧
  State.reset.rxOverflow = false ∧ State.reset.rxBreak = false ∧ State.reset.rxFraming = false ∧
  State.reset.rxParity = false ∧ State.reset.ier = 0 ∧ State.reset.arg0 = 0 ∧ State.reset.arg1 = 0 ∧
  State.reset.arg2 = 0 ∧ State.reset.result = 0 ∧ State.reset.rval = 0

/-- 70_reset_and_hazards.md R290: a reset step gives every register its reset value, leaves memory and parameters alone and emits
nothing. What is no register of the block (the inputs, the environment's requests, the model's own records) stays (log 18). -/
def Obligations.ResetStep : Prop :=
  ∀ (s : State) (rest : List Request), s.pending = .reset :: rest →
    step s = .next
      { State.reset with
        mem := s.mem, params := s.params, out := s.out, pending := rest, pclk := s.pclk, lsr := s.lsr, msr := s.msr
        fifo := s.fifo, rdata := s.rdata, stale := s.stale, unknown := s.unknown, draws := s.draws }

/-! ## The solver -/

/-- 40_baud_solver.md R121: the candidates are the pairs of the ranges, 120 of them, each once, in the order given. -/
def Obligations.SolverCandidates : Prop :=
  (∀ m d : Nat, (m, d) ∈ solverPairs ↔ 1 ≤ m ∧ m ≤ 15 ∧ d < m) ∧ solverPairs.length = 120 ∧
    solverPairs.Pairwise fun p q => Expected.before p.1 p.2 q.1 q.2

/-- 40_baud_solver.md R122, R123: the divisor of a candidate is the nearest one to the scaled quotient, a half rounded down, and
its error is the distance. -/
def Obligations.SolverRounding : Prop :=
  ∀ f b m d : Nat, 1 ≤ b → 1 ≤ m →
    solverQuotient f b m d = f * m * 2 ^ 28 / (b * (m + d)) ∧
    solverError f b m d = ((solverQuotient f b m d : Int) - 2 ^ 32 * solverDivisor f b m d).natAbs ∧
    solverError f b m d ≤ 2 ^ 31 ∧
    2 ^ 32 * solverDivisor f b m d < solverQuotient f b m d + 2 ^ 31

/-- 40_baud_solver.md R120 to R127: SOLVE answers NO_DIVISOR exactly if no candidate is valid, and otherwise judges the achieved
rate of the first candidate of smallest error. -/
def Obligations.SolverMeetsRules : Prop :=
  ∀ tol f b : Nat, 1 ≤ b →
    (solve tol f b = .noDivisor ↔ ∀ m d, ¬Expected.candidate f b m d) ∧
    (solve tol f b = .outOfTolerance ↔ ∃ m d, Expected.winner f b m d ∧ Expected.outside tol f b m d) ∧
    ∀ m d dv a, solve tol f b = .ok m d dv a ↔
      Expected.winner f b m d ∧ ¬Expected.outside tol f b m d ∧ dv = solverDivisor f b m d ∧
        a = Expected.achieved f b m d

/-- 40_baud_solver.md R130: what holds of every OK. -/
def Obligations.SolverBounds : Prop :=
  ∀ tol f b m d dv a : Nat, solve tol f b = .ok m d dv a →
    1 ≤ m ∧ m ≤ 15 ∧ 0 ≤ d ∧ d < m ∧ 1 ≤ dv ∧ dv ≤ 65536 ∧ 100 * ((a : Int) - b).natAbs ≤ tol * b

/-- 40_baud_solver.md R126, 10_state.md R46: the achieved rate is at most PCLK_HZ / 16, so BAUD holds it; and R123: a zero clock has no
divisor. -/
def Obligations.AchievedRateFits : Prop :=
  ∀ tol f b : Nat, f < 2 ^ 32 → 1 ≤ b →
    (∀ m d dv a, solve tol f b = .ok m d dv a → 16 * a ≤ f ∧ a < 2 ^ 28) ∧ (f = 0 → solve tol f b = .noDivisor)

/-- 40_baud_solver.md R128: the worked example. -/
def Obligations.SolverWorkedExample : Prop := solve 3 12000000 9600 = .ok 10 1 71 9603

/-! ## The commands -/

/-- 41_lifecycle.md R141, R140. -/
def Obligations.InitialiseEffect : Prop := ∀ s : State, exec .initialise s = .next (Expected.afterInitialise s)

/-- 41_lifecycle.md R142, R140, R143. -/
def Obligations.UninitializeEffect : Prop := ∀ s : State, exec .uninitialize s = .next (Expected.afterUninitialize s)

/-- 41_lifecycle.md R143, 42_transfer.md R175, R176. -/
def Obligations.PowerControlEffect : Prop := ∀ s : State, exec .powerControl s = .next (Expected.afterPowerControl s)

/-- 41_lifecycle.md R144. -/
def Obligations.ConfigureEffect : Prop := ∀ s : State, exec .configure s = .next (Expected.afterConfigure s)

/-- 41_lifecycle.md R145. -/
def Obligations.SetTxFillEffect : Prop := ∀ s : State, exec .setTxFill s = .next (Expected.afterSetTxFill s)

/-- 42_transfer.md R180, with R171 to R174, R177, R178, and R68, R76 for the bytes read: SEND refused, and accepted whenever the
platform admits what it asks for. That the model's record of raced bytes starts empty, and that bytes of a buffer being
received into are free values, is log 9. -/
def Obligations.SendEffect : Prop :=
  ∀ s : State,
    (∀ code, Expected.sendRefusal s = some code → exec .send s = .next (Expected.failed s code)) ∧
    (Expected.sendRefusal s = none → Expected.sendAdmitted s →
      ∃ bs d u, Expected.txReads s s.arg0 s.arg1 bs d u ∧ exec .send s = .next (Expected.afterSend s bs d u))

/-- 42_transfer.md R181, with R171 to R174, R177, R178. In a synchronous mode the model's record of raced bytes starts empty
(log 9). -/
def Obligations.ReceiveEffect : Prop :=
  ∀ s : State, (Expected.receiveRefusal s = none → Expected.receiveAdmitted s) →
    exec .receive s = .next (Expected.afterReceive s)

/-- 42_transfer.md R182, with R171 to R174, R178, and R68, R76 for the bytes read: TRANSFER refused, and accepted whenever the
platform admits what it asks for. That the model's record of raced bytes starts empty, and what bytes are free, is log 9. -/
def Obligations.TransferEffect : Prop :=
  ∀ s : State,
    (∀ code, Expected.transferRefusal s = some code → exec .transfer s = .next (Expected.failed s code)) ∧
    (Expected.transferRefusal s = none → Expected.transferAdmitted s →
      ∃ bs d u, Expected.txReads s s.arg0 s.arg2 bs d u ∧ exec .transfer s = .next (Expected.afterTransfer s bs d u))

/-- 20_memory.md R66, R75: an accepted start whose request or whose read the platform does not admit has no step. -/
def Obligations.StartNotAdmitted : Prop :=
  ∀ s : State,
    (Expected.sendRefusal s = none → ¬Expected.sendAdmitted s → Expected.notAdmitted (exec .send s)) ∧
    (Expected.receiveRefusal s = none → ¬Expected.receiveAdmitted s → Expected.notAdmitted (exec .receive s)) ∧
    (Expected.transferRefusal s = none → ¬Expected.transferAdmitted s → Expected.notAdmitted (exec .transfer s))

/-- 42_transfer.md R183, R184: the two counts. -/
def Obligations.CountQueries : Prop :=
  ∀ s : State,
    exec .getTxCount s = .next { s with rval := s.txCnt, result := 0 } ∧
    exec .getRxCount s = .next { s with rval := s.rxCnt, result := 0 }

/-- 42_transfer.md R185, 10_state.md R41: the status word, bit by bit. -/
def Obligations.StatusQuery : Prop :=
  ∀ s : State, ∃ w : Word, exec .getStatus s = .next { s with rval := w, result := 0 } ∧
    w.toNat = s.sendActive.toNat + 2 * s.rxBusy.toNat + 8 * s.rxOverflow.toNat + 16 * s.rxBreak.toNat +
      32 * s.rxFraming.toNat + 64 * s.rxParity.toNat

/-- 42_transfer.md R186, R187, R188, R175, R176: the three aborts, in every state. -/
def Obligations.AbortEffects : Prop :=
  ∀ s : State,
    exec .abortSend s = .next
      { (if Expected.inSync s then Expected.stoppedRx (Expected.stoppedTx s) else Expected.stoppedTx s) with
        syncTag := .none, result := 0 } ∧
    exec .abortReceive s = .next
      { (if Expected.inSync s then Expected.stoppedRx (Expected.stoppedTx s) else Expected.stoppedRx s) with
        syncTag := .none, result := 0 } ∧
    exec .abortTransfer s = .next
      { Expected.stoppedRx (Expected.stoppedTx s) with syncTag := .none, result := 0 }

/-! ## The dispatches -/

/-- 43_dispatcher.md R222, R228, R229, 42_transfer.md R170, 20_memory.md R68, R72, R76: an enabled THRE dispatch, with a free value
for each byte that was raced for or is unknown (log 9, and log 26 for FILL_ADDR). Where TX_CNT is above TX_NUM it writes nothing
(log 17). -/
def Obligations.ThreEffect : Prop :=
  ∀ s : State, s.ier.getLsbD 1 = true →
    (s.txSrc = .buffer → ∀ j < Expected.refill s, s.params.memAdmits .read (Expected.refillAddr s j) = true) →
    ∃ (bs : List Byte) (d : Nat) (u : List Span), bs.length = Expected.refill s ∧
      (∀ j < bs.length, Expected.maySend s j (bs.getD j 0)) ∧ Expected.refillRecord s u ∧
      exec .irqThre s = .next
        (if s.txCnt.toNat + Expected.refill s = s.txNum.toNat then
          { s with
            txCnt := s.txNum, ier := s.ier &&& 0b1101, sendActive := false, syncTag := Expected.completeTag .tx s
            draws := d, unknown := u
            out := s.out ++ Expected.refillActions s bs ++ Expected.delivered s (Expected.completeMask .tx s) }
        else
          { s with
            txCnt := s.txCnt + BitVec.ofNat 32 (Expected.refill s), draws := d, unknown := u
            out := s.out ++ Expected.refillActions s bs })

/-- 43_dispatcher.md R223, R229, 30_encoding.md R95. -/
def Obligations.RlsEffect : Prop :=
  ∀ s : State, s.ier.getLsbD 2 = true →
    exec .irqRls s = .next
      { s with
        rxOverflow := s.rxOverflow || s.lsr.getLsbD 1
        rxParity := s.rxParity || s.lsr.getLsbD 2
        rxBreak := s.rxBreak || s.lsr.getLsbD 4
        rxFraming := s.rxFraming || (s.lsr.getLsbD 3 && !s.lsr.getLsbD 4)
        out := s.out ++ Expected.delivered s (Expected.rlsMask s) }

/-- 43_dispatcher.md R224, R228, R229, 20_memory.md R65, R76, 70_reset_and_hazards.md R297: an enabled RDA dispatch. A store to
DUMP_ADDR is discarded (log 11), the characters not read stay in the FIFO input (log 16), where RX_CNT is above RX_NUM none
is read (log 17), and in the interrupt path the bytes stored are known from then on (log 9). -/
def Obligations.RdaEffect : Prop :=
  ∀ s : State, s.ier.getLsbD 0 = true → Expected.drainAdmitted s →
    ∃ t : State, exec .irqRda s = .next t ∧
      Expected.drained s t (if Expected.drainEnds s then Expected.completeMask .rx s else 0)

/-- 43_dispatcher.md R224, R225, R228, R229, 20_memory.md R65, R76, 70_reset_and_hazards.md R297: an enabled CTI dispatch, with the
drain of RDA (log 9, log 11, log 16, log 17) and the timeout. -/
def Obligations.CtiEffect : Prop :=
  ∀ s : State, s.ier.getLsbD 0 = true → Expected.drainAdmitted s →
    ∃ t : State, exec .irqCti s = .next t ∧
      Expected.drained s t (if Expected.drainEnds s then Expected.completeMask .rx s else 0x40)

/-- 43_dispatcher.md R226, R229, 30_encoding.md R96. -/
def Obligations.MsEffect : Prop :=
  ∀ s : State, s.ier.getLsbD 3 = true →
    exec .irqMs s = .next { s with out := s.out ++ Expected.delivered s (Expected.msMask s) }

/-- 43_dispatcher.md R221, R227: a code whose enable is 0, no interrupt, and the reserved codes change nothing and emit nothing. -/
def Obligations.IgnoredInterrupts : Prop :=
  ∀ s : State,
    (∀ id, exec (.irqNone id) s = .next s) ∧ exec .irqReserved8 s = .next s ∧ exec .irqReservedA s = .next s ∧
    exec .irqReservedE s = .next s ∧ (s.ier.getLsbD 1 = false → exec .irqThre s = .next s) ∧
    (s.ier.getLsbD 2 = false → exec .irqRls s = .next s) ∧ (s.ier.getLsbD 0 = false → exec .irqRda s = .next s) ∧
    (s.ier.getLsbD 0 = false → exec .irqCti s = .next s) ∧ (s.ier.getLsbD 3 = false → exec .irqMs s = .next s)

/-- 43_dispatcher.md R231, R232, R228, R229: an OK completion of an outstanding engine transfer. Of the model's record `unknown`
nothing is said here (OnlyDrainsWriteMemory says it). -/
def Obligations.DmaOkEffect : Prop :=
  ∀ (s : State) (ch : Nat),
    (s.params.txDma = some ch → s.sendActive = true → exec .dmaTxOk s = .next
      { s with
        txCnt := s.txNum, sendActive := false, syncTag := Expected.completeTag .tx s
        out := s.out ++ Expected.delivered s (Expected.completeMask .tx s) }) ∧
    (s.params.rxDma = some ch → s.rxBusy = true → ∃ u, exec .dmaRxOk s = .next
      { s with
        rxCnt := s.rxNum, rxBusy := false, ier := s.ier &&& 0b1011, syncTag := Expected.completeTag .rx s
        unknown := u
        out := s.out ++ Expected.delivered s (Expected.completeMask .rx s) })

/-- 43_dispatcher.md R233, R234: an error completion, and a completion for an idle side or one without a channel, change nothing. -/
def Obligations.IgnoredCompletions : Prop :=
  ∀ s : State,
    exec .dmaTxError s = .next s ∧ exec .dmaRxError s = .next s ∧
    (s.params.txDma = none ∨ s.sendActive = false → exec .dmaTxOk s = .next s) ∧
    (s.params.rxDma = none ∨ s.rxBusy = false → exec .dmaRxOk s = .next s)

/-- 20_memory.md R66: a dispatch whose read or store the memory does not admit is stuck, whole. -/
def Obligations.DispatchNotAdmitted : Prop :=
  ∀ s : State,
    (s.ier.getLsbD 1 = true → s.txSrc = .buffer →
      (∃ j < Expected.refill s, s.params.memAdmits .read (Expected.refillAddr s j) = false) →
      ∃ a, exec .irqThre s = .fault (.memNotAdmitted .read a)) ∧
    (s.ier.getLsbD 0 = true → s.rxDst = .buffer →
      (∃ j < Expected.drainCount s, s.params.memAdmits .write (Expected.drainAddr s j) = false) →
      (∃ a, exec .irqRda s = .fault (.memNotAdmitted .write a)) ∧
        ∃ a, exec .irqCti s = .fault (.memNotAdmitted .write a))

/-! ## Whole-machine rules -/

/-- 00_scope.md R13: a command that fails changes RESULT alone. -/
def Obligations.FailureChangesResultOnly : Prop :=
  ∀ (i : Instr) (s t : State), isCommand i = true → exec i s = .next t → t.result ≠ 0 →
    t = { s with result := t.result }

/-- 60_exceptions.md R262: the codes each command can answer with. -/
def Obligations.FailureCodes : Prop :=
  ∀ (i : Instr) (s t : State), isCommand i = true → exec i s = .next t → t.result ∈ Expected.codes i

/-- 41_lifecycle.md R147: LC changes only as the table of lifecycle transitions says; no dispatch and no other command changes it. -/
def Obligations.LifecycleTransitions : Prop :=
  ∀ (i : Instr) (s t : State), exec i s = .next t →
    t.lc = if isCommand i = true ∧ t.result ≠ 0 then s.lc else Expected.lcAfter i s

/-- 42_transfer.md R191, 00_scope.md R13: a command adds at most 16 THR, at most two DMA_PROGRAM and no CALLBACK to the output. -/
def Obligations.CommandOutputs : Prop :=
  ∀ (i : Instr) (s t : State), isCommand i = true → exec i s = .next t →
    ∃ acts, t.out = s.out ++ acts ∧ acts.countP Action.isThr ≤ 16 ∧ acts.countP Action.isDmaProgram ≤ 2 ∧
      acts.countP Action.isCallback = 0

/-- 43_dispatcher.md R235, R229, 20_memory.md R69: a dispatch emits at most one CALLBACK, last, and only if one is registered and the
mask is not 0. -/
def Obligations.OneCallbackLast : Prop :=
  ∀ (i : Instr) (s t : State), isCommand i = false → exec i s = .next t →
    ∃ acts last, t.out = s.out ++ acts ++ last ∧ acts.countP Action.isCallback = 0 ∧
      (last = [] ∨ ∃ mask, last = [.callback mask] ∧ s.cbReg = true ∧ mask ≠ 0)

/-- 43_dispatcher.md R237: what no dispatch writes, and that it sets no busy flag and programs no transfer. -/
def Obligations.DispatchFrame : Prop :=
  ∀ (i : Instr) (s t : State), isCommand i = false → exec i s = .next t →
    t.result = s.result ∧ t.rval = s.rval ∧ t.arg0 = s.arg0 ∧ t.arg1 = s.arg1 ∧ t.arg2 = s.arg2 ∧ t.lc = s.lc ∧
    t.cbReg = s.cbReg ∧ t.cfg = s.cfg ∧ t.txFill = s.txFill ∧ t.div = s.div ∧ t.mulval = s.mulval ∧
    t.divaddval = s.divaddval ∧ t.baud = s.baud ∧ t.ier.getLsbD 3 = s.ier.getLsbD 3 ∧
    (t.sendActive = true → s.sendActive = true) ∧ (t.rxBusy = true → s.rxBusy = true) ∧
    t.out.countP Action.isDmaProgram = s.out.countP Action.isDmaProgram

/-- 20_memory.md R60, R62: no instruction writes the data memory but a drain, RDA or CTI (whose writes RdaEffect and CtiEffect give).
R72, U2, R70: no instruction but these makes known a byte that an access to an outstanding receive left unknown, but for
the OK completion of the engine's RX transfer, which makes its buffer known (log 9). -/
def Obligations.OnlyDrainsWriteMemory : Prop :=
  ∀ (i : Instr) (s t : State), i ≠ .irqRda → i ≠ .irqCti → exec i s = .next t →
    t.mem = s.mem ∧
    ∀ a, Expected.onRecord s.unknown a →
      (Expected.onRecord t.unknown a ↔
        ¬(i = .dmaRxOk ∧ s.params.rxDma ≠ none ∧ Expected.receives s a))

/-- 10_state.md R31, R32: the divisor triple is written by a successful CONFIGURE alone, and BAUD by that and, to 0, by INITIALIZE and
UNINITIALIZE. -/
def Obligations.DivisorWriters : Prop :=
  ∀ (i : Instr) (s t : State), exec i s = .next t →
    ((t.div, t.mulval, t.divaddval) ≠ (s.div, s.mulval, s.divaddval) → i = .configure ∧ t.result = 0) ∧
    (t.baud ≠ s.baud → i = .configure ∧ t.result = 0 ∨ (i = .initialise ∨ i = .uninitialize) ∧ t.baud = 0)

/-- 10_state.md R23: no step writes a parameter. -/
def Obligations.ParametersFixed : Prop := ∀ s t : State, step s = .next t → t.params = s.params

/-- The memory keeps its canonical form (the model's own invariant, log 6), whatever the environment asks for. -/
def Obligations.MemoryCanonical : Prop :=
  Memory.wf State.reset.mem = true ∧ ∀ s t : State, Memory.wf s.mem = true → step s = .next t → Memory.wf t.mem = true

/-- 10_state.md R43, R44, R28, R31, R126, R261: the invariant, at reset. -/
def Obligations.InvAtReset : Prop := State.reset.Inv

/-- 10_state.md R43 (I-c), R44 (I-e to I-l, I-j where a side is busy: log 15) and the ranges of the registers: every step keeps
them, from every state that has them. I-j AS IT IS WRITTEN is kept by every step but a CONFIGURE, and so by all that R44 derives
it from, R170 to R178 and R221 to R232 (log 15). -/
def Obligations.InvKept : Prop :=
  ∀ s t : State, s.Inv → step s = .next t →
    t.Inv ∧
    (s.FillOnlyInSync →
      (∀ w p rest, s.pending = .hostWrite 0x00 4 w p :: rest → decode (.command w) ≠ .ok .configure) →
      t.FillOnlyInSync)

/-- 10_state.md R44 (I-j) AS IT IS WRITTEN, with no condition that the side is busy: the spec's own rules do not keep it (log 15:
after a synchronous transfer, CONFIGURE to an asynchronous mode leaves TX_SRC and RX_DST). Expected to fail. -/
def Obligations.FillOnlyInSyncAsWritten : Prop :=
  ∀ s t : State, s.Inv → s.FillOnlyInSync → step s = .next t → t.FillOnlyInSync

/-- 42_transfer.md R189: ABORT_RECEIVE, then a RECEIVE with good arguments, always succeeds with a count of 0. -/
def Obligations.AbortThenReceive : Prop :=
  ∀ (s : State) (buf len : Word), s.lc = .configured → buf ≠ 0 → len ≠ 0 →
    Expected.rxAdmitted s .buffer buf len →
    (Expected.inSync s → Expected.txAdmitted s .fill s.params.fillAddr len) →
    ∃ u t : State, exec .abortReceive s = .next u ∧ exec .receive { u with arg0 := buf, arg1 := len } = .next t ∧
      t.result = 0 ∧ t.rxCnt = 0 ∧ t.rxNum = len ∧ t.rxBusy = true

/-- 42_transfer.md R190: SEND with good arguments while a send is active fails Busy and leaves everything else alone. -/
def Obligations.SendWhileActive : Prop :=
  ∀ s : State, s.Inv → s.sendActive = true → s.arg0 ≠ 0 → s.arg1 ≠ 0 → exec .send s = .next { s with result := 5 }

/-- 60_exceptions.md R280: a dispatch that arrives while the block is unpowered does nothing. -/
def Obligations.UnpoweredDispatch : Prop :=
  ∀ (i : Instr) (s : State), s.Inv → s.lc = .unpowered ∨ s.lc = .initialized → isCommand i = false →
    exec i s = .next s

/-- 43_dispatcher.md R236, R228: once a receive is outstanding on the interrupt path, in every mode, alone or as the RX side of a
SEND or a TRANSFER, dispatches that bring the missing characters, however they are split over RDA and CTI and mixed with
THRE, end it: the count is the length and the side is idle. RECEIVE_COMPLETE is reported exactly once if the receive is an
asynchronous one or a synchronous RECEIVE, and never otherwise; TRANSFER_COMPLETE exactly once if it belongs to a TRANSFER
whose TX side has ended too; SEND_COMPLETE exactly once if a TX side that reports it has ended. Enough THRE dispatches end
the TX side. -/
def Obligations.ReceiveCompletesOnce : Prop :=
  ∀ (s : State) (inputs : List (Instr × List Byte)),
    s.Inv → s.ier.getLsbD 0 = true → s.cbReg = true → (∀ dir a, s.params.memAdmits dir a = true) →
    (∀ p ∈ inputs, p.1 = .irqRda ∨ p.1 = .irqCti ∨ p.1 = .irqThre) →
    s.rxNum.toNat - s.rxCnt.toNat ≤ Expected.brought inputs →
    ∃ t acts, Expected.dispatches inputs s = .next t ∧ t.out = s.out ++ acts ∧
      t.rxCnt = s.rxNum ∧ t.rxNum = s.rxNum ∧ t.rxBusy = false ∧
      acts.countP (Expected.reports 0x2) = (if Expected.inSync s = false ∨ s.syncTag = .rxOnly then 1 else 0) ∧
      acts.countP (Expected.reports 0x4) = (if s.syncTag = .txAndRx ∧ t.sendActive = false then 1 else 0) ∧
      acts.countP (Expected.reports 0x1) =
        (if t.sendActive = false ∧ s.sendActive = true ∧ (Expected.inSync s = false ∨ s.syncTag = .txOnly) then 1 else 0) ∧
      (s.ier.getLsbD 1 = true → 1 ≤ Expected.thres inputs →
        s.txNum.toNat - s.txCnt.toNat ≤ 16 * Expected.thres inputs → t.sendActive = false)

/-- 20_memory.md R72, 93_implementation_defined.md U1: a TX buffer byte another agent writes during the transfer that owns it has its
old value on the model's record, the memory holds the new one, and the block reads one of the values so gathered, which one
being the free value Config.raceIndex (log 9). U12, R296: a received character that the block stores over a byte still to
be sent leaves the old value on record likewise. -/
def Obligations.RacedByte : Prop :=
  ∀ (s s' : State) (a : Addr),
    Expected.sends s a → ¬Expected.onRecord s.unknown a → a ≠ s.params.fillAddr → a ≠ s.params.dumpAddr →
    Memory.wf s.mem = true →
    (∀ rest agent v, s.pending = .memWrite agent a v :: rest → ¬Expected.receives s a → step s = .next s' →
      s'.staleAt a = Expected.byteAt s a :: s.staleAt a ∧ Expected.byteAt s' a = v ∧
      (s.params.memAdmits .read a = true → ∃ d, loadByte a s' = .next
        ((v :: s'.staleAt a).getD (Config.raceIndex s'.draws % (s'.staleAt a).length.succ) v,
          { s' with out := s'.out ++ [.memRead a], draws := d }))) ∧
    (s.ier.getLsbD 0 = true → s.rxDst = .buffer → Expected.drainCount s = 1 → a = Expected.drainAddr s 0 →
      exec .irqRda s = .next s' →
      s'.staleAt a = Expected.byteAt s a :: s.staleAt a ∧ Expected.byteAt s' a = s.fifo.getD 0 0)

/-- 10_state.md R47, 20_memory.md R68, R72, R76, 70_reset_and_hazards.md R297: what another agent's access to the data memory does
(the requests are the model's: log 10). A read in the buffer of an outstanding receive, and a write there that is foreign to
it, leaves the buffer's contents unknown, but for the bytes below RX_CNT in the interrupt path; an unknown byte reads as the
free value Config.freeByte (log 9, log 22), and a byte so overwritten holds it. DUMP_ADDR discards a write (log 11). -/
def Obligations.SharedMemory : Prop :=
  ∀ (s : State) (rest : List Request) (a : Addr),
    (s.pending = .memRead .host a :: rest → ∃ v d u,
      step s = .next { s with pending := rest, rdata := BitVec.setWidth 32 v, draws := d, unknown := u } ∧
      (Expected.freeToHost s a → v = Config.freeByte s.draws ∧ d = s.draws + 1) ∧
      (¬Expected.freeToHost s a → v = Expected.byteAt s a ∧ d = s.draws) ∧
      ∀ b, Expected.onRecord u b ↔
        Expected.onRecord s.unknown b ∨ Expected.receives s a ∧ Expected.receives s b ∧ Expected.unsettled s b) ∧
    (s.pending = .memRead .engine a :: rest → ∃ u,
      step s = .next { s with pending := rest, unknown := u } ∧
      ∀ b, Expected.onRecord u b ↔
        Expected.onRecord s.unknown b ∨ Expected.receives s a ∧ Expected.receives s b ∧ Expected.unsettled s b) ∧
    (∀ agent v, s.pending = .memWrite agent a v :: rest → Memory.wf s.mem = true → ∃ t,
      step s = .next t ∧
      t = { s with pending := rest, mem := t.mem, stale := t.stale, draws := t.draws, unknown := t.unknown } ∧
      (a ≠ s.params.dumpAddr → Expected.foreign s agent a → t.mem.read a.toNat = Config.freeByte s.draws) ∧
      (a ≠ s.params.dumpAddr → ¬Expected.foreign s agent a → t.mem.read a.toNat = v) ∧
      (∀ b : Addr, b ≠ a ∨ a = s.params.dumpAddr → t.mem.read b.toNat = s.mem.read b.toNat) ∧
      ∀ b, Expected.onRecord t.unknown b ↔
        Expected.onRecord s.unknown b ∧
            ¬(b = a ∧ a ≠ s.params.dumpAddr ∧ ¬(Expected.receives s a ∧ s.params.rxDma ≠ none)) ∨
          Expected.foreign s agent a ∧ Expected.receives s b ∧ Expected.unsettled s b)

/-- 30_encoding.md R89, R90: an argument register that an instruction does not read has no influence on it. -/
def Obligations.IgnoredArguments : Prop :=
  ∀ (i : Instr) (s : State) (a b c : Word),
    exec i (Expected.otherArgs i a b c s) = Expected.onNext (Expected.otherArgs i a b c) (exec i s)

/-- 10_state.md R24 (the capabilities), R39 and 20_memory.md R61 (REG_BASE), 00_scope.md R7 (RX_TRIGGER): a parameter that no rule
reads has no influence. -/
def Obligations.UnreadParameters : Prop :=
  ∀ (i : Instr) (s : State) (q : Params),
    exec i { s with params := Expected.otherParams q s.params } =
      Expected.onNext (fun t => { t with params := Expected.otherParams q t.params }) (exec i s)

/-- 30_encoding.md R95, R96: the bits of LSR and MSR that are not read have no influence. -/
def Obligations.UnreadInputBits : Prop :=
  ∀ (i : Instr) (s : State) (l m : Byte),
    l.extractLsb' 1 4 = s.lsr.extractLsb' 1 4 → m.extractLsb' 0 4 = s.msr.extractLsb' 0 4 →
    exec i { s with lsr := l, msr := m } = Expected.onNext (fun t => { t with lsr := l, msr := m }) (exec i s)
end

