-- ==== Sys2Proof/Laws/State.lean ====
section
/-! SUPPORT. One lemma per field per update of the state, each true by rfl, so that no proof unfolds a record update. -/

namespace Sys2Proof.Machine

section
variable (s : State) (a : Action)
@[simp] theorem State.emit_lc : (s.emit a).lc = s.lc := rfl
@[simp] theorem State.emit_cbReg : (s.emit a).cbReg = s.cbReg := rfl
@[simp] theorem State.emit_cfg : (s.emit a).cfg = s.cfg := rfl
@[simp] theorem State.emit_txFill : (s.emit a).txFill = s.txFill := rfl
@[simp] theorem State.emit_div : (s.emit a).div = s.div := rfl
@[simp] theorem State.emit_mulval : (s.emit a).mulval = s.mulval := rfl
@[simp] theorem State.emit_divaddval : (s.emit a).divaddval = s.divaddval := rfl
@[simp] theorem State.emit_baud : (s.emit a).baud = s.baud := rfl
@[simp] theorem State.emit_sendActive : (s.emit a).sendActive = s.sendActive := rfl
@[simp] theorem State.emit_txBuf : (s.emit a).txBuf = s.txBuf := rfl
@[simp] theorem State.emit_txNum : (s.emit a).txNum = s.txNum := rfl
@[simp] theorem State.emit_txCnt : (s.emit a).txCnt = s.txCnt := rfl
@[simp] theorem State.emit_txSrc : (s.emit a).txSrc = s.txSrc := rfl
@[simp] theorem State.emit_rxBusy : (s.emit a).rxBusy = s.rxBusy := rfl
@[simp] theorem State.emit_rxBuf : (s.emit a).rxBuf = s.rxBuf := rfl
@[simp] theorem State.emit_rxNum : (s.emit a).rxNum = s.rxNum := rfl
@[simp] theorem State.emit_rxCnt : (s.emit a).rxCnt = s.rxCnt := rfl
@[simp] theorem State.emit_rxDst : (s.emit a).rxDst = s.rxDst := rfl
@[simp] theorem State.emit_syncTag : (s.emit a).syncTag = s.syncTag := rfl
@[simp] theorem State.emit_rxOverflow : (s.emit a).rxOverflow = s.rxOverflow := rfl
@[simp] theorem State.emit_rxBreak : (s.emit a).rxBreak = s.rxBreak := rfl
@[simp] theorem State.emit_rxFraming : (s.emit a).rxFraming = s.rxFraming := rfl
@[simp] theorem State.emit_rxParity : (s.emit a).rxParity = s.rxParity := rfl
@[simp] theorem State.emit_ier : (s.emit a).ier = s.ier := rfl
@[simp] theorem State.emit_arg0 : (s.emit a).arg0 = s.arg0 := rfl
@[simp] theorem State.emit_arg1 : (s.emit a).arg1 = s.arg1 := rfl
@[simp] theorem State.emit_arg2 : (s.emit a).arg2 = s.arg2 := rfl
@[simp] theorem State.emit_result : (s.emit a).result = s.result := rfl
@[simp] theorem State.emit_rval : (s.emit a).rval = s.rval := rfl
@[simp] theorem State.emit_mem : (s.emit a).mem = s.mem := rfl
@[simp] theorem State.emit_params : (s.emit a).params = s.params := rfl
@[simp] theorem State.emit_pclk : (s.emit a).pclk = s.pclk := rfl
@[simp] theorem State.emit_lsr : (s.emit a).lsr = s.lsr := rfl
@[simp] theorem State.emit_msr : (s.emit a).msr = s.msr := rfl
@[simp] theorem State.emit_fifo : (s.emit a).fifo = s.fifo := rfl
@[simp] theorem State.emit_out : (s.emit a).out = s.out ++ [a] := rfl
@[simp] theorem State.emit_pending : (s.emit a).pending = s.pending := rfl
@[simp] theorem State.emit_rdata : (s.emit a).rdata = s.rdata := rfl
@[simp] theorem State.emit_stale : (s.emit a).stale = s.stale := rfl
@[simp] theorem State.emit_unknown : (s.emit a).unknown = s.unknown := rfl
@[simp] theorem State.emit_draws : (s.emit a).draws = s.draws := rfl
end

section
variable (s : State) (b : Bool)
@[simp] theorem State.putRxe_lc : (s.putRxe b).lc = s.lc := rfl
@[simp] theorem State.putRxe_cbReg : (s.putRxe b).cbReg = s.cbReg := rfl
@[simp] theorem State.putRxe_cfg : (s.putRxe b).cfg = s.cfg := rfl
@[simp] theorem State.putRxe_txFill : (s.putRxe b).txFill = s.txFill := rfl
@[simp] theorem State.putRxe_div : (s.putRxe b).div = s.div := rfl
@[simp] theorem State.putRxe_mulval : (s.putRxe b).mulval = s.mulval := rfl
@[simp] theorem State.putRxe_divaddval : (s.putRxe b).divaddval = s.divaddval := rfl
@[simp] theorem State.putRxe_baud : (s.putRxe b).baud = s.baud := rfl
@[simp] theorem State.putRxe_sendActive : (s.putRxe b).sendActive = s.sendActive := rfl
@[simp] theorem State.putRxe_txBuf : (s.putRxe b).txBuf = s.txBuf := rfl
@[simp] theorem State.putRxe_txNum : (s.putRxe b).txNum = s.txNum := rfl
@[simp] theorem State.putRxe_txCnt : (s.putRxe b).txCnt = s.txCnt := rfl
@[simp] theorem State.putRxe_txSrc : (s.putRxe b).txSrc = s.txSrc := rfl
@[simp] theorem State.putRxe_rxBusy : (s.putRxe b).rxBusy = s.rxBusy := rfl
@[simp] theorem State.putRxe_rxBuf : (s.putRxe b).rxBuf = s.rxBuf := rfl
@[simp] theorem State.putRxe_rxNum : (s.putRxe b).rxNum = s.rxNum := rfl
@[simp] theorem State.putRxe_rxCnt : (s.putRxe b).rxCnt = s.rxCnt := rfl
@[simp] theorem State.putRxe_rxDst : (s.putRxe b).rxDst = s.rxDst := rfl
@[simp] theorem State.putRxe_syncTag : (s.putRxe b).syncTag = s.syncTag := rfl
@[simp] theorem State.putRxe_rxOverflow : (s.putRxe b).rxOverflow = s.rxOverflow := rfl
@[simp] theorem State.putRxe_rxBreak : (s.putRxe b).rxBreak = s.rxBreak := rfl
@[simp] theorem State.putRxe_rxFraming : (s.putRxe b).rxFraming = s.rxFraming := rfl
@[simp] theorem State.putRxe_rxParity : (s.putRxe b).rxParity = s.rxParity := rfl
@[simp] theorem State.putRxe_ier : (s.putRxe b).ier = ierPut s.ier 0 b := rfl
@[simp] theorem State.putRxe_arg0 : (s.putRxe b).arg0 = s.arg0 := rfl
@[simp] theorem State.putRxe_arg1 : (s.putRxe b).arg1 = s.arg1 := rfl
@[simp] theorem State.putRxe_arg2 : (s.putRxe b).arg2 = s.arg2 := rfl
@[simp] theorem State.putRxe_result : (s.putRxe b).result = s.result := rfl
@[simp] theorem State.putRxe_rval : (s.putRxe b).rval = s.rval := rfl
@[simp] theorem State.putRxe_mem : (s.putRxe b).mem = s.mem := rfl
@[simp] theorem State.putRxe_params : (s.putRxe b).params = s.params := rfl
@[simp] theorem State.putRxe_pclk : (s.putRxe b).pclk = s.pclk := rfl
@[simp] theorem State.putRxe_lsr : (s.putRxe b).lsr = s.lsr := rfl
@[simp] theorem State.putRxe_msr : (s.putRxe b).msr = s.msr := rfl
@[simp] theorem State.putRxe_fifo : (s.putRxe b).fifo = s.fifo := rfl
@[simp] theorem State.putRxe_out : (s.putRxe b).out = s.out := rfl
@[simp] theorem State.putRxe_pending : (s.putRxe b).pending = s.pending := rfl
@[simp] theorem State.putRxe_rdata : (s.putRxe b).rdata = s.rdata := rfl
@[simp] theorem State.putRxe_stale : (s.putRxe b).stale = s.stale := rfl
@[simp] theorem State.putRxe_unknown : (s.putRxe b).unknown = s.unknown := rfl
@[simp] theorem State.putRxe_draws : (s.putRxe b).draws = s.draws := rfl
end

section
variable (s : State) (b : Bool)
@[simp] theorem State.putThree_lc : (s.putThree b).lc = s.lc := rfl
@[simp] theorem State.putThree_cbReg : (s.putThree b).cbReg = s.cbReg := rfl
@[simp] theorem State.putThree_cfg : (s.putThree b).cfg = s.cfg := rfl
@[simp] theorem State.putThree_txFill : (s.putThree b).txFill = s.txFill := rfl
@[simp] theorem State.putThree_div : (s.putThree b).div = s.div := rfl
@[simp] theorem State.putThree_mulval : (s.putThree b).mulval = s.mulval := rfl
@[simp] theorem State.putThree_divaddval : (s.putThree b).divaddval = s.divaddval := rfl
@[simp] theorem State.putThree_baud : (s.putThree b).baud = s.baud := rfl
@[simp] theorem State.putThree_sendActive : (s.putThree b).sendActive = s.sendActive := rfl
@[simp] theorem State.putThree_txBuf : (s.putThree b).txBuf = s.txBuf := rfl
@[simp] theorem State.putThree_txNum : (s.putThree b).txNum = s.txNum := rfl
@[simp] theorem State.putThree_txCnt : (s.putThree b).txCnt = s.txCnt := rfl
@[simp] theorem State.putThree_txSrc : (s.putThree b).txSrc = s.txSrc := rfl
@[simp] theorem State.putThree_rxBusy : (s.putThree b).rxBusy = s.rxBusy := rfl
@[simp] theorem State.putThree_rxBuf : (s.putThree b).rxBuf = s.rxBuf := rfl
@[simp] theorem State.putThree_rxNum : (s.putThree b).rxNum = s.rxNum := rfl
@[simp] theorem State.putThree_rxCnt : (s.putThree b).rxCnt = s.rxCnt := rfl
@[simp] theorem State.putThree_rxDst : (s.putThree b).rxDst = s.rxDst := rfl
@[simp] theorem State.putThree_syncTag : (s.putThree b).syncTag = s.syncTag := rfl
@[simp] theorem State.putThree_rxOverflow : (s.putThree b).rxOverflow = s.rxOverflow := rfl
@[simp] theorem State.putThree_rxBreak : (s.putThree b).rxBreak = s.rxBreak := rfl
@[simp] theorem State.putThree_rxFraming : (s.putThree b).rxFraming = s.rxFraming := rfl
@[simp] theorem State.putThree_rxParity : (s.putThree b).rxParity = s.rxParity := rfl
@[simp] theorem State.putThree_ier : (s.putThree b).ier = ierPut s.ier 1 b := rfl
@[simp] theorem State.putThree_arg0 : (s.putThree b).arg0 = s.arg0 := rfl
@[simp] theorem State.putThree_arg1 : (s.putThree b).arg1 = s.arg1 := rfl
@[simp] theorem State.putThree_arg2 : (s.putThree b).arg2 = s.arg2 := rfl
@[simp] theorem State.putThree_result : (s.putThree b).result = s.result := rfl
@[simp] theorem State.putThree_rval : (s.putThree b).rval = s.rval := rfl
@[simp] theorem State.putThree_mem : (s.putThree b).mem = s.mem := rfl
@[simp] theorem State.putThree_params : (s.putThree b).params = s.params := rfl
@[simp] theorem State.putThree_pclk : (s.putThree b).pclk = s.pclk := rfl
@[simp] theorem State.putThree_lsr : (s.putThree b).lsr = s.lsr := rfl
@[simp] theorem State.putThree_msr : (s.putThree b).msr = s.msr := rfl
@[simp] theorem State.putThree_fifo : (s.putThree b).fifo = s.fifo := rfl
@[simp] theorem State.putThree_out : (s.putThree b).out = s.out := rfl
@[simp] theorem State.putThree_pending : (s.putThree b).pending = s.pending := rfl
@[simp] theorem State.putThree_rdata : (s.putThree b).rdata = s.rdata := rfl
@[simp] theorem State.putThree_stale : (s.putThree b).stale = s.stale := rfl
@[simp] theorem State.putThree_unknown : (s.putThree b).unknown = s.unknown := rfl
@[simp] theorem State.putThree_draws : (s.putThree b).draws = s.draws := rfl
end

section
variable (s : State) (b : Bool)
@[simp] theorem State.putRlse_lc : (s.putRlse b).lc = s.lc := rfl
@[simp] theorem State.putRlse_cbReg : (s.putRlse b).cbReg = s.cbReg := rfl
@[simp] theorem State.putRlse_cfg : (s.putRlse b).cfg = s.cfg := rfl
@[simp] theorem State.putRlse_txFill : (s.putRlse b).txFill = s.txFill := rfl
@[simp] theorem State.putRlse_div : (s.putRlse b).div = s.div := rfl
@[simp] theorem State.putRlse_mulval : (s.putRlse b).mulval = s.mulval := rfl
@[simp] theorem State.putRlse_divaddval : (s.putRlse b).divaddval = s.divaddval := rfl
@[simp] theorem State.putRlse_baud : (s.putRlse b).baud = s.baud := rfl
@[simp] theorem State.putRlse_sendActive : (s.putRlse b).sendActive = s.sendActive := rfl
@[simp] theorem State.putRlse_txBuf : (s.putRlse b).txBuf = s.txBuf := rfl
@[simp] theorem State.putRlse_txNum : (s.putRlse b).txNum = s.txNum := rfl
@[simp] theorem State.putRlse_txCnt : (s.putRlse b).txCnt = s.txCnt := rfl
@[simp] theorem State.putRlse_txSrc : (s.putRlse b).txSrc = s.txSrc := rfl
@[simp] theorem State.putRlse_rxBusy : (s.putRlse b).rxBusy = s.rxBusy := rfl
@[simp] theorem State.putRlse_rxBuf : (s.putRlse b).rxBuf = s.rxBuf := rfl
@[simp] theorem State.putRlse_rxNum : (s.putRlse b).rxNum = s.rxNum := rfl
@[simp] theorem State.putRlse_rxCnt : (s.putRlse b).rxCnt = s.rxCnt := rfl
@[simp] theorem State.putRlse_rxDst : (s.putRlse b).rxDst = s.rxDst := rfl
@[simp] theorem State.putRlse_syncTag : (s.putRlse b).syncTag = s.syncTag := rfl
@[simp] theorem State.putRlse_rxOverflow : (s.putRlse b).rxOverflow = s.rxOverflow := rfl
@[simp] theorem State.putRlse_rxBreak : (s.putRlse b).rxBreak = s.rxBreak := rfl
@[simp] theorem State.putRlse_rxFraming : (s.putRlse b).rxFraming = s.rxFraming := rfl
@[simp] theorem State.putRlse_rxParity : (s.putRlse b).rxParity = s.rxParity := rfl
@[simp] theorem State.putRlse_ier : (s.putRlse b).ier = ierPut s.ier 2 b := rfl
@[simp] theorem State.putRlse_arg0 : (s.putRlse b).arg0 = s.arg0 := rfl
@[simp] theorem State.putRlse_arg1 : (s.putRlse b).arg1 = s.arg1 := rfl
@[simp] theorem State.putRlse_arg2 : (s.putRlse b).arg2 = s.arg2 := rfl
@[simp] theorem State.putRlse_result : (s.putRlse b).result = s.result := rfl
@[simp] theorem State.putRlse_rval : (s.putRlse b).rval = s.rval := rfl
@[simp] theorem State.putRlse_mem : (s.putRlse b).mem = s.mem := rfl
@[simp] theorem State.putRlse_params : (s.putRlse b).params = s.params := rfl
@[simp] theorem State.putRlse_pclk : (s.putRlse b).pclk = s.pclk := rfl
@[simp] theorem State.putRlse_lsr : (s.putRlse b).lsr = s.lsr := rfl
@[simp] theorem State.putRlse_msr : (s.putRlse b).msr = s.msr := rfl
@[simp] theorem State.putRlse_fifo : (s.putRlse b).fifo = s.fifo := rfl
@[simp] theorem State.putRlse_out : (s.putRlse b).out = s.out := rfl
@[simp] theorem State.putRlse_pending : (s.putRlse b).pending = s.pending := rfl
@[simp] theorem State.putRlse_rdata : (s.putRlse b).rdata = s.rdata := rfl
@[simp] theorem State.putRlse_stale : (s.putRlse b).stale = s.stale := rfl
@[simp] theorem State.putRlse_unknown : (s.putRlse b).unknown = s.unknown := rfl
@[simp] theorem State.putRlse_draws : (s.putRlse b).draws = s.draws := rfl
end

section
variable (s : State)
@[simp] theorem State.clearSticky_lc : s.clearSticky.lc = s.lc := rfl
@[simp] theorem State.clearSticky_cbReg : s.clearSticky.cbReg = s.cbReg := rfl
@[simp] theorem State.clearSticky_cfg : s.clearSticky.cfg = s.cfg := rfl
@[simp] theorem State.clearSticky_txFill : s.clearSticky.txFill = s.txFill := rfl
@[simp] theorem State.clearSticky_div : s.clearSticky.div = s.div := rfl
@[simp] theorem State.clearSticky_mulval : s.clearSticky.mulval = s.mulval := rfl
@[simp] theorem State.clearSticky_divaddval : s.clearSticky.divaddval = s.divaddval := rfl
@[simp] theorem State.clearSticky_baud : s.clearSticky.baud = s.baud := rfl
@[simp] theorem State.clearSticky_sendActive : s.clearSticky.sendActive = s.sendActive := rfl
@[simp] theorem State.clearSticky_txBuf : s.clearSticky.txBuf = s.txBuf := rfl
@[simp] theorem State.clearSticky_txNum : s.clearSticky.txNum = s.txNum := rfl
@[simp] theorem State.clearSticky_txCnt : s.clearSticky.txCnt = s.txCnt := rfl
@[simp] theorem State.clearSticky_txSrc : s.clearSticky.txSrc = s.txSrc := rfl
@[simp] theorem State.clearSticky_rxBusy : s.clearSticky.rxBusy = s.rxBusy := rfl
@[simp] theorem State.clearSticky_rxBuf : s.clearSticky.rxBuf = s.rxBuf := rfl
@[simp] theorem State.clearSticky_rxNum : s.clearSticky.rxNum = s.rxNum := rfl
@[simp] theorem State.clearSticky_rxCnt : s.clearSticky.rxCnt = s.rxCnt := rfl
@[simp] theorem State.clearSticky_rxDst : s.clearSticky.rxDst = s.rxDst := rfl
@[simp] theorem State.clearSticky_syncTag : s.clearSticky.syncTag = s.syncTag := rfl
@[simp] theorem State.clearSticky_rxOverflow : s.clearSticky.rxOverflow = false := rfl
@[simp] theorem State.clearSticky_rxBreak : s.clearSticky.rxBreak = false := rfl
@[simp] theorem State.clearSticky_rxFraming : s.clearSticky.rxFraming = false := rfl
@[simp] theorem State.clearSticky_rxParity : s.clearSticky.rxParity = false := rfl
@[simp] theorem State.clearSticky_ier : s.clearSticky.ier = s.ier := rfl
@[simp] theorem State.clearSticky_arg0 : s.clearSticky.arg0 = s.arg0 := rfl
@[simp] theorem State.clearSticky_arg1 : s.clearSticky.arg1 = s.arg1 := rfl
@[simp] theorem State.clearSticky_arg2 : s.clearSticky.arg2 = s.arg2 := rfl
@[simp] theorem State.clearSticky_result : s.clearSticky.result = s.result := rfl
@[simp] theorem State.clearSticky_rval : s.clearSticky.rval = s.rval := rfl
@[simp] theorem State.clearSticky_mem : s.clearSticky.mem = s.mem := rfl
@[simp] theorem State.clearSticky_params : s.clearSticky.params = s.params := rfl
@[simp] theorem State.clearSticky_pclk : s.clearSticky.pclk = s.pclk := rfl
@[simp] theorem State.clearSticky_lsr : s.clearSticky.lsr = s.lsr := rfl
@[simp] theorem State.clearSticky_msr : s.clearSticky.msr = s.msr := rfl
@[simp] theorem State.clearSticky_fifo : s.clearSticky.fifo = s.fifo := rfl
@[simp] theorem State.clearSticky_out : s.clearSticky.out = s.out := rfl
@[simp] theorem State.clearSticky_pending : s.clearSticky.pending = s.pending := rfl
@[simp] theorem State.clearSticky_rdata : s.clearSticky.rdata = s.rdata := rfl
@[simp] theorem State.clearSticky_stale : s.clearSticky.stale = s.stale := rfl
@[simp] theorem State.clearSticky_unknown : s.clearSticky.unknown = s.unknown := rfl
@[simp] theorem State.clearSticky_draws : s.clearSticky.draws = s.draws := rfl
end

section
variable (s : State)
@[simp] theorem State.rxRead_lc : s.rxRead.lc = s.lc := rfl
@[simp] theorem State.rxRead_cbReg : s.rxRead.cbReg = s.cbReg := rfl
@[simp] theorem State.rxRead_cfg : s.rxRead.cfg = s.cfg := rfl
@[simp] theorem State.rxRead_txFill : s.rxRead.txFill = s.txFill := rfl
@[simp] theorem State.rxRead_div : s.rxRead.div = s.div := rfl
@[simp] theorem State.rxRead_mulval : s.rxRead.mulval = s.mulval := rfl
@[simp] theorem State.rxRead_divaddval : s.rxRead.divaddval = s.divaddval := rfl
@[simp] theorem State.rxRead_baud : s.rxRead.baud = s.baud := rfl
@[simp] theorem State.rxRead_sendActive : s.rxRead.sendActive = s.sendActive := rfl
@[simp] theorem State.rxRead_txBuf : s.rxRead.txBuf = s.txBuf := rfl
@[simp] theorem State.rxRead_txNum : s.rxRead.txNum = s.txNum := rfl
@[simp] theorem State.rxRead_txCnt : s.rxRead.txCnt = s.txCnt := rfl
@[simp] theorem State.rxRead_txSrc : s.rxRead.txSrc = s.txSrc := rfl
@[simp] theorem State.rxRead_rxBusy : s.rxRead.rxBusy = s.rxBusy := rfl
@[simp] theorem State.rxRead_rxBuf : s.rxRead.rxBuf = s.rxBuf := rfl
@[simp] theorem State.rxRead_rxNum : s.rxRead.rxNum = s.rxNum := rfl
@[simp] theorem State.rxRead_rxCnt : s.rxRead.rxCnt = s.rxCnt := rfl
@[simp] theorem State.rxRead_rxDst : s.rxRead.rxDst = s.rxDst := rfl
@[simp] theorem State.rxRead_syncTag : s.rxRead.syncTag = s.syncTag := rfl
@[simp] theorem State.rxRead_rxOverflow : s.rxRead.rxOverflow = s.rxOverflow := rfl
@[simp] theorem State.rxRead_rxBreak : s.rxRead.rxBreak = s.rxBreak := rfl
@[simp] theorem State.rxRead_rxFraming : s.rxRead.rxFraming = s.rxFraming := rfl
@[simp] theorem State.rxRead_rxParity : s.rxRead.rxParity = s.rxParity := rfl
@[simp] theorem State.rxRead_ier : s.rxRead.ier = s.ier := rfl
@[simp] theorem State.rxRead_arg0 : s.rxRead.arg0 = s.arg0 := rfl
@[simp] theorem State.rxRead_arg1 : s.rxRead.arg1 = s.arg1 := rfl
@[simp] theorem State.rxRead_arg2 : s.rxRead.arg2 = s.arg2 := rfl
@[simp] theorem State.rxRead_result : s.rxRead.result = s.result := rfl
@[simp] theorem State.rxRead_rval : s.rxRead.rval = s.rval := rfl
@[simp] theorem State.rxRead_mem : s.rxRead.mem = s.mem := rfl
@[simp] theorem State.rxRead_params : s.rxRead.params = s.params := rfl
@[simp] theorem State.rxRead_pclk : s.rxRead.pclk = s.pclk := rfl
@[simp] theorem State.rxRead_lsr : s.rxRead.lsr = s.lsr := rfl
@[simp] theorem State.rxRead_msr : s.rxRead.msr = s.msr := rfl
@[simp] theorem State.rxRead_fifo : s.rxRead.fifo = s.fifo.tail := rfl
@[simp] theorem State.rxRead_out : s.rxRead.out = s.out ++ [.rxRead] := rfl
@[simp] theorem State.rxRead_pending : s.rxRead.pending = s.pending := rfl
@[simp] theorem State.rxRead_rdata : s.rxRead.rdata = s.rdata := rfl
@[simp] theorem State.rxRead_stale : s.rxRead.stale = s.stale := rfl
@[simp] theorem State.rxRead_unknown : s.rxRead.unknown = s.unknown := rfl
@[simp] theorem State.rxRead_draws : s.rxRead.draws = s.draws := rfl
end

section
variable (src : TxSource) (buf : Addr) (len : Word) (s : State)
@[simp] theorem setupTx_lc : (setupTx src buf len s).lc = s.lc := rfl
@[simp] theorem setupTx_cbReg : (setupTx src buf len s).cbReg = s.cbReg := rfl
@[simp] theorem setupTx_cfg : (setupTx src buf len s).cfg = s.cfg := rfl
@[simp] theorem setupTx_txFill : (setupTx src buf len s).txFill = s.txFill := rfl
@[simp] theorem setupTx_div : (setupTx src buf len s).div = s.div := rfl
@[simp] theorem setupTx_mulval : (setupTx src buf len s).mulval = s.mulval := rfl
@[simp] theorem setupTx_divaddval : (setupTx src buf len s).divaddval = s.divaddval := rfl
@[simp] theorem setupTx_baud : (setupTx src buf len s).baud = s.baud := rfl
@[simp] theorem setupTx_sendActive : (setupTx src buf len s).sendActive = true := rfl
@[simp] theorem setupTx_txNum : (setupTx src buf len s).txNum = len := rfl
@[simp] theorem setupTx_txCnt : (setupTx src buf len s).txCnt = 0 := rfl
@[simp] theorem setupTx_txSrc : (setupTx src buf len s).txSrc = src := rfl
@[simp] theorem setupTx_rxBusy : (setupTx src buf len s).rxBusy = s.rxBusy := rfl
@[simp] theorem setupTx_rxBuf : (setupTx src buf len s).rxBuf = s.rxBuf := rfl
@[simp] theorem setupTx_rxNum : (setupTx src buf len s).rxNum = s.rxNum := rfl
@[simp] theorem setupTx_rxCnt : (setupTx src buf len s).rxCnt = s.rxCnt := rfl
@[simp] theorem setupTx_rxDst : (setupTx src buf len s).rxDst = s.rxDst := rfl
@[simp] theorem setupTx_syncTag : (setupTx src buf len s).syncTag = s.syncTag := rfl
@[simp] theorem setupTx_rxOverflow : (setupTx src buf len s).rxOverflow = s.rxOverflow := rfl
@[simp] theorem setupTx_rxBreak : (setupTx src buf len s).rxBreak = s.rxBreak := rfl
@[simp] theorem setupTx_rxFraming : (setupTx src buf len s).rxFraming = s.rxFraming := rfl
@[simp] theorem setupTx_rxParity : (setupTx src buf len s).rxParity = s.rxParity := rfl
@[simp] theorem setupTx_ier : (setupTx src buf len s).ier = s.ier := rfl
@[simp] theorem setupTx_arg0 : (setupTx src buf len s).arg0 = s.arg0 := rfl
@[simp] theorem setupTx_arg1 : (setupTx src buf len s).arg1 = s.arg1 := rfl
@[simp] theorem setupTx_arg2 : (setupTx src buf len s).arg2 = s.arg2 := rfl
@[simp] theorem setupTx_result : (setupTx src buf len s).result = s.result := rfl
@[simp] theorem setupTx_rval : (setupTx src buf len s).rval = s.rval := rfl
@[simp] theorem setupTx_mem : (setupTx src buf len s).mem = s.mem := rfl
@[simp] theorem setupTx_params : (setupTx src buf len s).params = s.params := rfl
@[simp] theorem setupTx_pclk : (setupTx src buf len s).pclk = s.pclk := rfl
@[simp] theorem setupTx_lsr : (setupTx src buf len s).lsr = s.lsr := rfl
@[simp] theorem setupTx_msr : (setupTx src buf len s).msr = s.msr := rfl
@[simp] theorem setupTx_fifo : (setupTx src buf len s).fifo = s.fifo := rfl
@[simp] theorem setupTx_out : (setupTx src buf len s).out = s.out := rfl
@[simp] theorem setupTx_pending : (setupTx src buf len s).pending = s.pending := rfl
@[simp] theorem setupTx_rdata : (setupTx src buf len s).rdata = s.rdata := rfl
@[simp] theorem setupTx_stale : (setupTx src buf len s).stale = [] := rfl
@[simp] theorem setupTx_unknown : (setupTx src buf len s).unknown = s.unknown := rfl
@[simp] theorem setupTx_draws : (setupTx src buf len s).draws = s.draws := rfl
end

section
variable (dst : RxDest) (buf : Addr) (len : Word) (s : State)
@[simp] theorem setupRx_lc : (setupRx dst buf len s).lc = s.lc := rfl
@[simp] theorem setupRx_cbReg : (setupRx dst buf len s).cbReg = s.cbReg := rfl
@[simp] theorem setupRx_cfg : (setupRx dst buf len s).cfg = s.cfg := rfl
@[simp] theorem setupRx_txFill : (setupRx dst buf len s).txFill = s.txFill := rfl
@[simp] theorem setupRx_div : (setupRx dst buf len s).div = s.div := rfl
@[simp] theorem setupRx_mulval : (setupRx dst buf len s).mulval = s.mulval := rfl
@[simp] theorem setupRx_divaddval : (setupRx dst buf len s).divaddval = s.divaddval := rfl
@[simp] theorem setupRx_baud : (setupRx dst buf len s).baud = s.baud := rfl
@[simp] theorem setupRx_sendActive : (setupRx dst buf len s).sendActive = s.sendActive := rfl
@[simp] theorem setupRx_txBuf : (setupRx dst buf len s).txBuf = s.txBuf := rfl
@[simp] theorem setupRx_txNum : (setupRx dst buf len s).txNum = s.txNum := rfl
@[simp] theorem setupRx_txCnt : (setupRx dst buf len s).txCnt = s.txCnt := rfl
@[simp] theorem setupRx_txSrc : (setupRx dst buf len s).txSrc = s.txSrc := rfl
@[simp] theorem setupRx_rxBusy : (setupRx dst buf len s).rxBusy = true := rfl
@[simp] theorem setupRx_rxNum : (setupRx dst buf len s).rxNum = len := rfl
@[simp] theorem setupRx_rxCnt : (setupRx dst buf len s).rxCnt = 0 := rfl
@[simp] theorem setupRx_rxDst : (setupRx dst buf len s).rxDst = dst := rfl
@[simp] theorem setupRx_syncTag : (setupRx dst buf len s).syncTag = s.syncTag := rfl
@[simp] theorem setupRx_rxOverflow : (setupRx dst buf len s).rxOverflow = false := rfl
@[simp] theorem setupRx_rxBreak : (setupRx dst buf len s).rxBreak = false := rfl
@[simp] theorem setupRx_rxFraming : (setupRx dst buf len s).rxFraming = false := rfl
@[simp] theorem setupRx_rxParity : (setupRx dst buf len s).rxParity = false := rfl
@[simp] theorem setupRx_ier : (setupRx dst buf len s).ier = s.ier := rfl
@[simp] theorem setupRx_arg0 : (setupRx dst buf len s).arg0 = s.arg0 := rfl
@[simp] theorem setupRx_arg1 : (setupRx dst buf len s).arg1 = s.arg1 := rfl
@[simp] theorem setupRx_arg2 : (setupRx dst buf len s).arg2 = s.arg2 := rfl
@[simp] theorem setupRx_result : (setupRx dst buf len s).result = s.result := rfl
@[simp] theorem setupRx_rval : (setupRx dst buf len s).rval = s.rval := rfl
@[simp] theorem setupRx_mem : (setupRx dst buf len s).mem = s.mem := rfl
@[simp] theorem setupRx_params : (setupRx dst buf len s).params = s.params := rfl
@[simp] theorem setupRx_pclk : (setupRx dst buf len s).pclk = s.pclk := rfl
@[simp] theorem setupRx_lsr : (setupRx dst buf len s).lsr = s.lsr := rfl
@[simp] theorem setupRx_msr : (setupRx dst buf len s).msr = s.msr := rfl
@[simp] theorem setupRx_fifo : (setupRx dst buf len s).fifo = s.fifo := rfl
@[simp] theorem setupRx_out : (setupRx dst buf len s).out = s.out := rfl
@[simp] theorem setupRx_pending : (setupRx dst buf len s).pending = s.pending := rfl
@[simp] theorem setupRx_rdata : (setupRx dst buf len s).rdata = s.rdata := rfl
@[simp] theorem setupRx_stale : (setupRx dst buf len s).stale = s.stale := rfl
@[simp] theorem setupRx_unknown : (setupRx dst buf len s).unknown = s.unknown := rfl
@[simp] theorem setupRx_draws : (setupRx dst buf len s).draws = s.draws := rfl
end

section
variable (s : State)
@[simp] theorem runtimeClear_lc : (runtimeClear s).lc = s.lc := rfl
@[simp] theorem runtimeClear_cbReg : (runtimeClear s).cbReg = s.cbReg := rfl
@[simp] theorem runtimeClear_cfg : (runtimeClear s).cfg = 0 := rfl
@[simp] theorem runtimeClear_txFill : (runtimeClear s).txFill = 0 := rfl
@[simp] theorem runtimeClear_div : (runtimeClear s).div = s.div := rfl
@[simp] theorem runtimeClear_mulval : (runtimeClear s).mulval = s.mulval := rfl
@[simp] theorem runtimeClear_divaddval : (runtimeClear s).divaddval = s.divaddval := rfl
@[simp] theorem runtimeClear_baud : (runtimeClear s).baud = 0 := rfl
@[simp] theorem runtimeClear_sendActive : (runtimeClear s).sendActive = false := rfl
@[simp] theorem runtimeClear_txBuf : (runtimeClear s).txBuf = 0 := rfl
@[simp] theorem runtimeClear_txNum : (runtimeClear s).txNum = 0 := rfl
@[simp] theorem runtimeClear_txCnt : (runtimeClear s).txCnt = 0 := rfl
@[simp] theorem runtimeClear_txSrc : (runtimeClear s).txSrc = .buffer := rfl
@[simp] theorem runtimeClear_rxBusy : (runtimeClear s).rxBusy = false := rfl
@[simp] theorem runtimeClear_rxBuf : (runtimeClear s).rxBuf = 0 := rfl
@[simp] theorem runtimeClear_rxNum : (runtimeClear s).rxNum = 0 := rfl
@[simp] theorem runtimeClear_rxCnt : (runtimeClear s).rxCnt = 0 := rfl
@[simp] theorem runtimeClear_rxDst : (runtimeClear s).rxDst = .buffer := rfl
@[simp] theorem runtimeClear_syncTag : (runtimeClear s).syncTag = .none := rfl
@[simp] theorem runtimeClear_rxOverflow : (runtimeClear s).rxOverflow = false := rfl
@[simp] theorem runtimeClear_rxBreak : (runtimeClear s).rxBreak = false := rfl
@[simp] theorem runtimeClear_rxFraming : (runtimeClear s).rxFraming = false := rfl
@[simp] theorem runtimeClear_rxParity : (runtimeClear s).rxParity = false := rfl
@[simp] theorem runtimeClear_ier : (runtimeClear s).ier = 0 := rfl
@[simp] theorem runtimeClear_arg0 : (runtimeClear s).arg0 = s.arg0 := rfl
@[simp] theorem runtimeClear_arg1 : (runtimeClear s).arg1 = s.arg1 := rfl
@[simp] theorem runtimeClear_arg2 : (runtimeClear s).arg2 = s.arg2 := rfl
@[simp] theorem runtimeClear_result : (runtimeClear s).result = s.result := rfl
@[simp] theorem runtimeClear_rval : (runtimeClear s).rval = s.rval := rfl
@[simp] theorem runtimeClear_mem : (runtimeClear s).mem = s.mem := rfl
@[simp] theorem runtimeClear_params : (runtimeClear s).params = s.params := rfl
@[simp] theorem runtimeClear_pclk : (runtimeClear s).pclk = s.pclk := rfl
@[simp] theorem runtimeClear_lsr : (runtimeClear s).lsr = s.lsr := rfl
@[simp] theorem runtimeClear_msr : (runtimeClear s).msr = s.msr := rfl
@[simp] theorem runtimeClear_fifo : (runtimeClear s).fifo = s.fifo := rfl
@[simp] theorem runtimeClear_out : (runtimeClear s).out = s.out := rfl
@[simp] theorem runtimeClear_pending : (runtimeClear s).pending = s.pending := rfl
@[simp] theorem runtimeClear_rdata : (runtimeClear s).rdata = s.rdata := rfl
@[simp] theorem runtimeClear_stale : (runtimeClear s).stale = s.stale := rfl
@[simp] theorem runtimeClear_unknown : (runtimeClear s).unknown = s.unknown := rfl
@[simp] theorem runtimeClear_draws : (runtimeClear s).draws = s.draws := rfl
end

@[simp] theorem setupTx_txBuf_buffer (buf : Addr) (len : Word) (s : State) : (setupTx .buffer buf len s).txBuf = buf := rfl
@[simp] theorem setupTx_txBuf_fill (buf : Addr) (len : Word) (s : State) :
    (setupTx .fill buf len s).txBuf = s.params.fillAddr := rfl
@[simp] theorem setupRx_rxBuf_buffer (buf : Addr) (len : Word) (s : State) : (setupRx .buffer buf len s).rxBuf = buf := rfl
@[simp] theorem setupRx_rxBuf_discard (buf : Addr) (len : Word) (s : State) :
    (setupRx .discard buf len s).rxBuf = s.params.dumpAddr := rfl

end Sys2Proof.Machine
end

