-- ==== Sys2Proof/Laws/Flags.lean ====
section
/-! SUPPORT. The IER bits after a change (spec/10_state.md R37), and the views of the state that an update leaves alone. -/

namespace Sys2Proof.Machine

theorem ierPut_getLsbD : ∀ (ier : BitVec 4) (b : Fin 4) (on : Bool) (k : Fin 4),
    (ierPut ier b.val on).getLsbD k.val = if k = b then on else ier.getLsbD k.val := by decide

section
variable (s : State) (on : Bool)

@[simp] theorem State.putRxe_rxe : (s.putRxe on).rxe = on :=
  ierPut_getLsbD s.ier 0 on 0
@[simp] theorem State.putRxe_three : (s.putRxe on).three = s.three :=
  ierPut_getLsbD s.ier 0 on 1
@[simp] theorem State.putRxe_rlse : (s.putRxe on).rlse = s.rlse :=
  ierPut_getLsbD s.ier 0 on 2
@[simp] theorem State.putRxe_mse : (s.putRxe on).mse = s.mse :=
  ierPut_getLsbD s.ier 0 on 3
@[simp] theorem State.putThree_rxe : (s.putThree on).rxe = s.rxe :=
  ierPut_getLsbD s.ier 1 on 0
@[simp] theorem State.putThree_three : (s.putThree on).three = on :=
  ierPut_getLsbD s.ier 1 on 1
@[simp] theorem State.putThree_rlse : (s.putThree on).rlse = s.rlse :=
  ierPut_getLsbD s.ier 1 on 2
@[simp] theorem State.putThree_mse : (s.putThree on).mse = s.mse :=
  ierPut_getLsbD s.ier 1 on 3
@[simp] theorem State.putRlse_rxe : (s.putRlse on).rxe = s.rxe :=
  ierPut_getLsbD s.ier 2 on 0
@[simp] theorem State.putRlse_three : (s.putRlse on).three = s.three :=
  ierPut_getLsbD s.ier 2 on 1
@[simp] theorem State.putRlse_rlse : (s.putRlse on).rlse = on :=
  ierPut_getLsbD s.ier 2 on 2
@[simp] theorem State.putRlse_mse : (s.putRlse on).mse = s.mse :=
  ierPut_getLsbD s.ier 2 on 3
@[simp] theorem State.putRxe_sync : (s.putRxe on).sync = s.sync := rfl
@[simp] theorem State.putThree_sync : (s.putThree on).sync = s.sync := rfl
@[simp] theorem State.putRlse_sync : (s.putRlse on).sync = s.sync := rfl
end

section
variable (s : State) (a : Action)
@[simp] theorem State.emit_sync : (s.emit a).sync = s.sync := rfl
@[simp] theorem State.emit_rxe : (s.emit a).rxe = s.rxe := rfl
@[simp] theorem State.emit_three : (s.emit a).three = s.three := rfl
@[simp] theorem State.emit_rlse : (s.emit a).rlse = s.rlse := rfl
@[simp] theorem State.emit_mse : (s.emit a).mse = s.mse := rfl
@[simp] theorem State.emit_anyBusy : (s.emit a).anyBusy = s.anyBusy := rfl
end

section
variable (src : TxSource) (dst : RxDest) (buf : Addr) (len : Word) (s : State)
@[simp] theorem setupTx_sync : (setupTx src buf len s).sync = s.sync := rfl
@[simp] theorem setupTx_three : (setupTx src buf len s).three = s.three := rfl
@[simp] theorem setupRx_sync : (setupRx dst buf len s).sync = s.sync := rfl
@[simp] theorem setupRx_rxe : (setupRx dst buf len s).rxe = s.rxe := rfl
@[simp] theorem setupRx_rlse : (setupRx dst buf len s).rlse = s.rlse := rfl
end

/-- SYNC (R29) is a matter of MODE alone. -/
theorem State.sync_eq (s : State) : s.sync = (cfgMode s.cfg == 1 || cfgMode s.cfg == 2) := rfl

/-- MODE 1 and 2 are the synchronous modes (R28, R29). -/
theorem modeIsSync_of_bits {b : BitVec 3} {m : Mode} (h : modeOfBits b = some m) :
    modeIsSync m = (b == 1 || b == 2) := by
  revert h
  revert b m
  intro b
  have key : ∀ b : BitVec 3, ∀ m ∈ modeOfBits b, modeIsSync m = (b == 1 || b == 2) := by decide
  intro m h
  exact key b m h

/-- A posted event is there exactly under its condition (43_dispatcher.md). -/
@[simp] theorem postIf_true (e : Event) : postIf true e = e.mask := rfl
@[simp] theorem postIf_false (e : Event) : postIf false e = 0 := rfl

end Sys2Proof.Machine
end

