-- ==== Sys2Proof/Laws/Memory.lean ====
section
/-! SUPPORT. The laws of the data memory: a read after a write, and the canonical form kept. -/

namespace Sys2Proof.Machine

/-- Below the first listed address nothing is listed. -/
theorem Memory.read_of_wfFrom {m : Memory} : ∀ {lo a : Nat}, Memory.wfFrom lo m = true → a < lo →
    Memory.read m a = Memory.background := by
  induction m with
  | nil => intro lo a _ _; rfl
  | cons c m ih =>
    obtain ⟨b, w⟩ := c
    intro lo a h ha
    simp only [Memory.wfFrom, Bool.and_eq_true, decide_eq_true_eq] at h
    have hab : a ≠ b := by omega
    simp only [Memory.read, if_neg hab]
    exact ih h.2 (by omega)

/-- A read after a write to another address. -/
theorem Memory.read_write_other {m : Memory} {a b : Nat} {v : Byte} (h : a ≠ b) :
    Memory.read (Memory.write m b v) a = Memory.read m a := by
  induction m with
  | nil =>
    simp only [Memory.write]
    split <;> simp [Memory.read, h]
  | cons c m ih =>
    obtain ⟨k, w⟩ := c
    simp only [Memory.write]
    split
    · split <;> simp [Memory.read, h]
    · split
      · subst_vars
        split <;> simp [Memory.read, h]
      · simp only [Memory.read, ih]

/-- A read after a write to the same address gives the value written. -/
theorem Memory.read_write_same {m : Memory} {a : Nat} {v : Byte} : ∀ {lo : Nat}, Memory.wfFrom lo m = true →
    Memory.read (Memory.write m a v) a = v := by
  induction m with
  | nil =>
    intro _ _
    simp only [Memory.write]
    split <;> simp_all [Memory.read]
  | cons c m ih =>
    obtain ⟨k, w⟩ := c
    intro lo h
    simp only [Memory.wfFrom, Bool.and_eq_true, decide_eq_true_eq] at h
    simp only [Memory.write]
    split
    · rename_i hlt
      split
      · rename_i hv
        have hk : a ≠ k := by omega
        rw [Memory.read, if_neg hk, Memory.read_of_wfFrom h.2 (by omega), hv]
      · simp [Memory.read]
    · split
      · rename_i hk
        subst hk
        split
        · rename_i hv
          rw [Memory.read_of_wfFrom h.2 (by omega), hv]
        · simp [Memory.read]
      · rename_i hk
        rw [Memory.read, if_neg hk]
        exact ih h.2

/-- A write keeps the canonical form. -/
theorem Memory.wfFrom_write {m : Memory} {a : Nat} {v : Byte} (ha : a < 2 ^ 32) : ∀ {lo : Nat}, lo ≤ a →
    Memory.wfFrom lo m = true → Memory.wfFrom lo (Memory.write m a v) = true := by
  induction m with
  | nil =>
    intro lo hlo _
    simp only [Memory.write]
    split <;> simp_all [Memory.wfFrom]
  | cons c m ih =>
    obtain ⟨k, w⟩ := c
    intro lo hlo h
    simp only [Memory.write]
    split
    · split
      · exact h
      · simp only [Memory.wfFrom, Bool.and_eq_true, decide_eq_true_eq] at h ⊢
        refine ⟨⟨⟨hlo, ha⟩, by simpa using ‹¬v = Memory.background›⟩, ⟨⟨by omega, h.1.1.2⟩, h.1.2⟩, h.2⟩
    · split
      · rename_i hk
        subst hk
        simp only [Memory.wfFrom, Bool.and_eq_true, decide_eq_true_eq] at h
        split
        · have weaken : ∀ (m : Memory) (x y : Nat), x ≤ y → Memory.wfFrom y m = true → Memory.wfFrom x m = true := by
            intro m x y hxy hm
            cases m with
            | nil => rfl
            | cons c m =>
              obtain ⟨k, w⟩ := c
              simp only [Memory.wfFrom, Bool.and_eq_true, decide_eq_true_eq] at hm ⊢
              exact ⟨⟨⟨by omega, hm.1.1.2⟩, hm.1.2⟩, hm.2⟩
          exact weaken m lo (a + 1) (by omega) h.2
        · simp only [Memory.wfFrom, Bool.and_eq_true, decide_eq_true_eq]
          exact ⟨⟨⟨hlo, ha⟩, by simpa using ‹¬v = Memory.background›⟩, h.2⟩
      · simp only [Memory.wfFrom, Bool.and_eq_true, decide_eq_true_eq] at h ⊢
        exact ⟨h.1, ih (by omega) h.2⟩

theorem Memory.wf_write {m : Memory} {a : Nat} {v : Byte} (ha : a < 2 ^ 32) (h : Memory.wf m = true) :
    Memory.wf (Memory.write m a v) = true :=
  Memory.wfFrom_write ha (Nat.zero_le a) h

theorem Memory.wf_nil : Memory.wf [] = true := rfl

/-- In the canonical form a read after a write is the value written or what was there. -/
theorem Memory.read_write {m : Memory} {a b : Nat} {v : Byte} (h : Memory.wf m = true) :
    Memory.read (Memory.write m b v) a = if a = b then v else Memory.read m a := by
  split
  · subst_vars
    exact Memory.read_write_same h
  · exact Memory.read_write_other ‹_›

end Sys2Proof.Machine
end

