-- ==== Sys2Proof/Laws/Unknown.lean ====
section
/-! SUPPORT. The record of unknown bytes (spec/20_memory.md R72, 93_implementation_defined.md U2; log 9) as a set of addresses: what
each operation adds to it and takes out of it. -/

namespace Sys2Proof.Machine

@[simp] theorem covered_nil (a : Addr) : covered [] a = false := rfl

@[simp] theorem covered_append (u v : List Span) (a : Addr) : covered (u ++ v) a = (covered u a || covered v a) := by
  simp [covered]

theorem covered_cons (x : Span) (u : List Span) (a : Addr) :
    covered (x :: u) a = (x.covers a.toNat || covered u a) := rfl

theorem covered_eq_true {u : List Span} {a : Addr} :
    covered u a = true ↔ ∃ x ∈ u, x.lo ≤ a.toNat ∧ a.toNat < x.hi := by
  simp [covered, Span.covers]

/-- A span that covers an address is not empty. -/
theorem covered_filter_nonempty (u : List Span) (a : Addr) :
    covered (u.filter fun p => p.lo < p.hi) a = covered u a := by
  rw [Bool.eq_iff_iff, covered_eq_true, covered_eq_true]
  constructor
  · rintro ⟨x, hx, h⟩; exact ⟨x, (List.mem_filter.1 hx).1, h⟩
  · rintro ⟨x, hx, h⟩; exact ⟨x, List.mem_filter.2 ⟨hx, by simp; omega⟩, h⟩

theorem covered_without (y x : Span) (a : Addr) :
    covered (y.without x) a = (x.covers a.toNat && !y.covers a.toNat) := by
  rw [Span.without, covered_filter_nonempty, Bool.eq_iff_iff]
  simp only [covered, List.any_cons, List.any_nil, Span.covers, Bool.or_false, Bool.or_eq_true, Bool.and_eq_true,
    decide_eq_true_eq, Bool.not_eq_true', Bool.and_eq_false_iff, decide_eq_false_iff_not]
  omega

/-- What is left is what was there and is not taken out. -/
theorem covered_uncover (ys : List Span) : ∀ (u : List Span) (a : Addr),
    covered (uncover ys u) a = (covered u a && !covered ys a) := by
  induction ys with
  | nil => intro u a; simp [uncover]
  | cons y ys ih =>
    intro u a
    have h1 : covered (u.flatMap (Span.without y)) a = (covered u a && !y.covers a.toNat) := by
      induction u with
      | nil => rfl
      | cons x u ihu =>
        rw [List.flatMap_cons, covered_append, covered_without, ihu, covered_cons]
        cases x.covers a.toNat <;> cases y.covers a.toNat <;> simp
    show covered (uncover ys (u.flatMap (Span.without y))) a = _
    rw [ih, h1, covered_cons]
    cases covered u a <;> cases y.covers a.toNat <;> simp

/-- The spans of a buffer's bytes hold exactly these (R65). -/
theorem covered_spansOf {base : Addr} {first stop : Nat} (h : stop ≤ 2 ^ 32) (a : Addr) :
    covered (spansOf base first stop) a =
      decide (first ≤ (a - base).toNat ∧ (a - base).toNat < stop) := by
  rw [spansOf, covered_filter_nonempty, Bool.eq_iff_iff]
  simp only [covered, List.any_cons, List.any_nil, Span.covers, Bool.or_false, Bool.or_eq_true, Bool.and_eq_true,
    decide_eq_true_eq]
  have h1 := a.isLt
  have h2 := base.isLt
  have h3 := BitVec.toNat_sub a base
  by_cases hc : base.toNat ≤ a.toNat
  · have : (a - base).toNat = a.toNat - base.toNat := by omega
    omega
  · have : (a - base).toNat = a.toNat + 2 ^ 32 - base.toNat := by omega
    omega

/-- A byte alone. -/
theorem covered_single (a b : Addr) : covered [⟨b.toNat, b.toNat + 1⟩] a = decide (a = b) := by
  rw [Bool.eq_iff_iff]
  simp only [covered, List.any_cons, List.any_nil, Span.covers, Bool.or_false, Bool.and_eq_true, decide_eq_true_eq,
    ← BitVec.toNat_inj]
  omega

/-- After an access to the RX buffer the bytes that were unknown still are, and so is all of the buffer from `rxSettled` on. -/
theorem covered_spoil (s : State) (a : Addr) :
    covered s.spoil.unknown a =
      (covered s.unknown a || decide (s.rxSettled ≤ (a - s.rxBuf).toNat ∧ (a - s.rxBuf).toNat < s.rxNum.toNat)) := by
  rw [← covered_spansOf (Nat.le_of_lt s.rxNum.isLt)]
  show covered (_ ++ s.unknown) a = _
  rw [covered_append, Bool.eq_iff_iff]
  simp only [Bool.or_eq_true, covered_eq_true, List.mem_filter, Bool.not_eq_true', List.contains_eq_mem,
    decide_eq_false_iff_not]
  constructor
  · rintro (⟨x, ⟨hx, -⟩, h⟩ | h)
    · exact .inr ⟨x, hx, h⟩
    · exact .inl h
  · rintro (h | ⟨x, hx, h⟩)
    · exact .inr h
    · by_cases hu : x ∈ s.unknown
      · exact .inr ⟨x, hu, h⟩
      · exact .inl ⟨x, ⟨hx, hu⟩, h⟩

/-- An access changes the record of unknown bytes alone. -/
theorem touchRx_eq (s : State) (a : Addr) : s.touchRx a = { s with unknown := (s.touchRx a).unknown } := by
  unfold State.touchRx; split <;> rfl

theorem blockTouch_eq (s : State) (a : Addr) : s.blockTouch a = { s with unknown := (s.blockTouch a).unknown } := by
  unfold State.blockTouch
  split
  · rfl
  · exact touchRx_eq s a

theorem settleRx_eq (s : State) : s.settleRx = { s with unknown := s.settleRx.unknown } := by
  unfold State.settleRx; split <;> rfl

theorem covered_touchRx (s : State) (b a : Addr) :
    covered (s.touchRx b).unknown a =
      (covered s.unknown a || s.rxOwns b &&
        decide (s.rxSettled ≤ (a - s.rxBuf).toNat ∧ (a - s.rxBuf).toNat < s.rxNum.toNat)) := by
  unfold State.touchRx
  split <;> simp_all [covered_spoil]

theorem covered_blockTouch (s : State) (b a : Addr) :
    covered (s.blockTouch b).unknown a =
      (covered s.unknown a || !s.sync && s.rxOwns b &&
        decide (s.rxSettled ≤ (a - s.rxBuf).toNat ∧ (a - s.rxBuf).toNat < s.rxNum.toNat)) := by
  unfold State.blockTouch
  split <;> simp_all [covered_touchRx]

/-- The OK completion of an RX transfer of the engine makes its buffer known and nothing else. -/
theorem covered_settleRx (s : State) (a : Addr) :
    covered s.settleRx.unknown a =
      (covered s.unknown a && !(s.rxDst == .buffer && decide ((a - s.rxBuf).toNat < s.rxNum.toNat))) := by
  unfold State.settleRx
  split
  · rename_i h
    rw [covered_uncover, covered_spansOf (Nat.le_of_lt s.rxNum.isLt)]
    simp [h]
  · rename_i h
    simp [h]

/-- A write makes the byte written known, unless an RX transfer of the engine owns it, and no other. -/
theorem covered_unknownBut (s : State) (b a : Addr) :
    covered (s.unknownBut b) a =
      (covered s.unknown a && (s.rxOwns b && s.params.rxDma.isSome || !decide (a = b))) := by
  unfold State.unknownBut
  split
  · rename_i h; simp [h]
  · rename_i h; rw [covered_uncover, covered_single]; simp [h]

/-- The state whose RX buffer was accessed already is not changed by another access. -/
theorem spoil_spoil (s : State) : s.spoil.spoil = s.spoil := by
  have key : ∀ x ∈ spansOf s.rxBuf s.rxSettled s.rxNum.toNat, x ∈ s.spoil.unknown := by
    intro x hx
    show x ∈ _ ++ s.unknown
    by_cases hu : x ∈ s.unknown
    · exact List.mem_append_right _ hu
    · exact List.mem_append_left _ (List.mem_filter.2 ⟨hx, by simpa using hu⟩)
  show ({ s.spoil with unknown := _ ++ s.spoil.unknown } : State) = s.spoil
  rw [List.filter_eq_nil_iff.2 (by intro x hx; simpa using key x hx), List.nil_append]

end Sys2Proof.Machine
end

