-- ==== Sys2Proof/Laws/Ops.lean ====
section
/-! SUPPORT. What each shared operation of Machine/Ops.lean can do, said once: cite these and do not unfold it. -/

namespace Sys2Proof.Machine

@[simp] theorem andThen_next {α β : Type} (a : α) (f : α → Answer β) : andThen (.next a) f = f a := rfl

@[simp] theorem andThen_fault {α β : Type} (r : Fault) (f : α → Answer β) : andThen (.fault r) f = .fault r := rfl

@[simp] theorem andThen_refused {α β : Type} (r : Refusal) (f : α → Answer β) :
    andThen (.refused r) f = .refused r := rfl

/-- A step of two parts answers exactly if both do. -/
theorem andThen_eq_next {α β : Type} {o : Answer α} {f : α → Answer β} {b : β} :
    andThen o f = .next b ↔ ∃ a, o = .next a ∧ f a = .next b := by
  cases o <;> simp

/-- DELIVER adds at most one CALLBACK to the output (43_dispatcher.md R229). -/
theorem deliver_eq (mask : EventMask) (s : State) :
    deliver mask s =
      { s with out := s.out ++ if s.cbReg = true ∧ mask ≠ 0 then [.callback mask] else [] } := by
  have key : (s.cbReg && mask != 0) = decide (s.cbReg = true ∧ mask ≠ 0) := by
    rw [Bool.eq_iff_iff]
    simp [bne_iff_ne]
  unfold deliver
  rw [key]
  by_cases h : s.cbReg = true ∧ mask ≠ 0
  · rw [if_pos h, if_pos (decide_eq_true h)]; rfl
  · rw [if_neg h, if_neg (by simpa using h), List.append_nil]

/-- A dispatch answers exactly if its case does, and then delivers. -/
theorem dispatch_eq_next {o : Answer (State × EventMask)} {t : State} :
    dispatch o = .next t ↔ ∃ u m, o = .next (u, m) ∧ t = deliver m u := by
  simp only [dispatch, andThen_eq_next, Host.Outcome.next.injEq, Prod.exists]
  constructor
  · rintro ⟨u, m, h, rfl⟩; exact ⟨u, m, h, rfl⟩
  · rintro ⟨u, m, h, rfl⟩; exact ⟨u, m, h, rfl⟩

@[simp] theorem dispatch_ignore (s : State) : dispatch (ignore s) = .next s := by
  simp [dispatch, ignore, deliver]

/-- COMPLETE changes SYNC_TAG alone (R228). -/
theorem complete_fst (side : Side) (s : State) : ∃ tag, (complete side s).1 = { s with syncTag := tag } := by
  unfold complete
  split
  · split
    · exact ⟨_, rfl⟩
    · exact ⟨_, rfl⟩
    · split
      · exact ⟨s.syncTag, rfl⟩
      · exact ⟨_, rfl⟩
    · exact ⟨s.syncTag, rfl⟩
  · split <;> exact ⟨s.syncTag, rfl⟩

/-- A byte written changes the memory and the model's records of raced and unknown bytes alone. -/
theorem writeByte_eq (s : State) (a : Addr) (v : Byte) :
    ∃ m old u d, s.writeByte a v = { s with mem := m, stale := old, unknown := u, draws := d } := by
  unfold State.writeByte
  split
  · exact ⟨s.mem, s.stale, s.unknown, s.draws, rfl⟩
  · exact ⟨_, _, _, _, rfl⟩

/-- The memory after a byte write: DUMP_ADDR discards it (20_memory.md R76). -/
theorem writeByte_mem (s : State) (a : Addr) (v : Byte) :
    (s.writeByte a v).mem = if a = s.params.dumpAddr then s.mem else Memory.write s.mem a.toNat v := by
  unfold State.writeByte
  split <;> rfl

/-- A byte write keeps the memory's canonical form. -/
theorem writeByte_wf {s : State} (a : Addr) (v : Byte) (h : Memory.wf s.mem = true) :
    Memory.wf (s.writeByte a v).mem = true := by
  rw [writeByte_mem]
  split
  · exact h
  · exact Memory.wf_write a.isLt h

/-- The byte the block reads is free if it is unknown, and otherwise the memory's or one it held before another agent
overwrote it (R72). -/
theorem pickByte_cases (a : Addr) (s : State) :
    (s.unknownAt a = true ∨ (pickByte a s).1 = s.readByte a ∨ (pickByte a s).1 ∈ s.staleAt a) ∧
      ∃ d, (pickByte a s).2 = { s with draws := d } := by
  unfold pickByte
  split
  · exact ⟨.inl ‹_›, _, rfl⟩
  · split
    · exact ⟨.inr (.inl rfl), s.draws, rfl⟩
    · rename_i old older hst
      refine ⟨.inr ?_, _, rfl⟩
      have hlen : Config.raceIndex s.draws % (older.length + 2) < (s.readByte a :: old :: older).length :=
        Nat.mod_lt _ (Nat.succ_pos _)
      have hmem : (s.readByte a :: old :: older).getD (Config.raceIndex s.draws % (older.length + 2)) old ∈
          s.readByte a :: old :: older := by
        rw [List.getD_eq_getElem _ _ hlen]
        exact List.getElem_mem hlen
      rw [hst]
      simpa using hmem

/-- Everything MemRead can do (R66, R72, U2). -/
theorem loadByte_next {a : Addr} {s : State} {r : Byte × State} (h : loadByte a s = .next r) :
    s.params.memAdmits .read a = true ∧
      ((s.blockTouch a).unknownAt a = true ∨ r.1 = s.readByte a ∨ r.1 ∈ s.staleAt a) ∧
      ∃ d, r.2 = { s with out := s.out ++ [.memRead a], draws := d, unknown := (s.blockTouch a).unknown } := by
  unfold loadByte at h
  split at h
  · cases h
    obtain ⟨h1, d, h2⟩ := pickByte_cases a ((s.blockTouch a).emit (.memRead a))
    rw [h2]
    rw [blockTouch_eq] at h1 ⊢
    exact ⟨‹_›, h1, d, rfl⟩
  · cases h

/-- MemRead answers wherever the memory admits it. -/
theorem loadByte_admitted {a : Addr} {s : State} (h : s.params.memAdmits .read a = true) :
    ∃ r, loadByte a s = .next r := ⟨_, if_pos h⟩

/-- MemRead of a byte that is known and that no one raced for. -/
theorem loadByte_fresh {a : Addr} {s : State} (hadm : s.params.memAdmits .read a = true)
    (hu : (s.blockTouch a).unknownAt a = false) (hst : s.staleAt a = []) :
    loadByte a s = .next (s.readByte a, (s.blockTouch a).emit (.memRead a)) := by
  have h1 : ((s.blockTouch a).emit (.memRead a)).unknownAt a = false := hu
  have h2 : ((s.blockTouch a).emit (.memRead a)).staleAt a = [] := by rw [blockTouch_eq]; exact hst
  have h3 : ((s.blockTouch a).emit (.memRead a)).readByte a = s.readByte a := by rw [blockTouch_eq]; rfl
  rw [loadByte, if_pos hadm, pickByte, if_neg (by simp [h1]), h2]
  simp only [h3]

/-- The bytes the block must take as unknown when it reads at `a` (U2): those on record, and in an asynchronous mode those
of the buffer that is being received into. -/
theorem blockTouch_unknownAt (s : State) (a : Addr) :
    (s.blockTouch a).unknownAt a =
      (a != s.params.fillAddr &&
        (covered s.unknown a || !s.sync && s.rxOwns a && decide (s.rxSettled ≤ (a - s.rxBuf).toNat))) := by
  have h : (s.blockTouch a).unknownAt a = (a != s.params.fillAddr && covered (s.blockTouch a).unknown a) := by
    rw [State.unknownAt, show (s.blockTouch a).params = s.params by rw [blockTouch_eq]]
  rw [h, covered_blockTouch]
  by_cases ho : s.rxOwns a = true
  · have hi : (a - s.rxBuf).toNat < s.rxNum.toNat := by
      simp only [State.rxOwns, Bool.and_eq_true, decide_eq_true_eq] at ho
      exact ho.2
    simp only [ho, hi, and_true, Bool.and_true]
  · simp [ho]

/-- Another read of the block before makes no byte unknown that this read does not. -/
theorem blockTouch_blockTouch_unknownAt (s : State) (b a : Addr)
    (h : ((s.blockTouch b).blockTouch a).unknownAt a = true) : (s.blockTouch a).unknownAt a = true := by
  rw [blockTouch_unknownAt, covered_blockTouch] at h
  rw [blockTouch_unknownAt]
  rw [blockTouch_eq s b] at h
  simp only [Bool.and_eq_true, Bool.or_eq_true, Bool.not_eq_true', decide_eq_true_eq] at h ⊢
  refine ⟨h.1, ?_⟩
  rcases h.2 with (h2 | ⟨⟨hs, ho⟩, h1, h3⟩) | ⟨⟨hs, ho⟩, h1⟩
  · exact .inl h2
  · refine .inr ⟨⟨hs, ?_⟩, h1⟩
    simp only [State.rxOwns, Bool.and_eq_true, decide_eq_true_eq] at ho ⊢
    exact ⟨ho.1, h3⟩
  · exact .inr ⟨⟨hs, ho⟩, h1⟩

/-- Everything MemWrite can do (R66). -/
theorem storeByte_next {a : Addr} {v : Byte} {s t : State} (h : storeByte a v s = .next t) :
    s.params.memAdmits .write a = true ∧ t = (s.emit (.memWrite a v)).writeByte a v := by
  unfold storeByte at h
  split at h
  · cases h
    exact ⟨‹_›, rfl⟩
  · cases h

/-- Everything DMA_PROGRAM can do (R75). -/
theorem dmaProgram_next {r : DmaRequest} {s t : State} (h : dmaProgram r s = .next t) :
    s.params.dmaAdmits r = true ∧ t = s.emit (.dmaProgram r) := by
  unfold dmaProgram at h
  split at h
  · cases h
    exact ⟨‹_›, rfl⟩
  · cases h

end Sys2Proof.Machine
end

