-- ==== Sys2Proof/Laws/Sides.lean ====
section
/-! SUPPORT. What the helpers of the transfer state machine can do (spec/42_transfer.md). -/

namespace Sys2Proof.Machine

/-- Everything TX_BYTE can do (R170). -/
theorem txByte_next {i : Word} {s : State} {r : Byte × State} (h : txByte i s = .next r) :
    ∃ acts d u, r.2 = { s with out := s.out ++ acts, draws := d, unknown := u } ∧
      (acts = [] ∧ s.txSrc = .fill ∧ r.1 = s.txFill ∨ acts = [.memRead (s.txBuf + i)] ∧ s.txSrc = .buffer) := by
  unfold txByte at h
  split at h
  · rename_i hs
    cases h
    exact ⟨[], s.draws, s.unknown, by simp, .inl ⟨rfl, hs, rfl⟩⟩
  · rename_i hs
    obtain ⟨-, -, d, hr⟩ := loadByte_next h
    exact ⟨_, d, _, hr, .inr ⟨rfl, hs⟩⟩

/-- Everything writing `k` characters can do (R173, R222): exactly `k` THR actions, no CALLBACK, no request; nothing else
changes. -/
theorem pushChars_next {k : Nat} : ∀ {i : Word} {s t : State}, pushChars k i s = .next t →
    ∃ acts d u, t = { s with out := s.out ++ acts, draws := d, unknown := u } ∧ acts.countP Action.isThr = k ∧
      acts.all (fun a => !a.isCallback && !a.isDmaProgram) = true := by
  induction k with
  | zero =>
    intro i s t h
    cases h
    exact ⟨[], s.draws, s.unknown, by simp, rfl, rfl⟩
  | succ k ih =>
    intro i s t h
    rw [pushChars, andThen_eq_next] at h
    obtain ⟨r, hr, h⟩ := h
    obtain ⟨acts, d, u, hs, hacts⟩ := txByte_next hr
    obtain ⟨acts', d', u', ht, hn, hall⟩ := ih h
    refine ⟨acts ++ .thr r.1 :: acts', d', u', ?_, ?_, ?_⟩
    · rw [ht, hs]; simp [State.emit]
    · rcases hacts with ⟨rfl, -⟩ | ⟨rfl, -⟩ <;> simp [List.countP_cons, hn, Action.isThr]
    · rcases hacts with ⟨rfl, -⟩ | ⟨rfl, -⟩ <;>
        simpa [Action.isCallback, Action.isDmaProgram] using hall

/-- Writing `k` dummy characters (R170): memory is not read for them. -/
theorem pushChars_fill {k : Nat} : ∀ {i : Word} {s : State}, s.txSrc = .fill →
    pushChars k i s = .next { s with out := s.out ++ List.replicate k (.thr s.txFill) } := by
  induction k with
  | zero => intro i s _; simp [pushChars]
  | succ k ih =>
    intro i s hs
    have h1 : txByte i s = .next (s.txFill, s) := by simp [txByte, hs]
    rw [pushChars, h1, andThen_next, ih (by simpa using hs)]
    simp [State.emit, List.replicate_succ]

/-- The record of unknown bytes after the block has read `k` bytes of the TX buffer from index `i` on: the RX buffer is
spoilt if one of them lies in it (U2). -/
def afterReads (k : Nat) (i : Word) (s : State) : List Span :=
  if !s.sync && (List.range k).any fun j => s.rxOwns (s.txBuf + (i + BitVec.ofNat 32 j)) then s.spoil.unknown
  else s.unknown

theorem word_shift (i : Word) (j : Nat) : i + 1 + BitVec.ofNat 32 j = i + BitVec.ofNat 32 (j + 1) := by
  apply BitVec.eq_of_toNat_eq
  simp [BitVec.toNat_add, BitVec.toNat_ofNat]
  omega

/-- A read before the others: its touch and theirs are one. -/
theorem afterReads_succ (k : Nat) (i : Word) (s t : State) (d : Nat) (acts : List Action)
    (ht : t = { s with out := acts, draws := d, unknown := (s.blockTouch (s.txBuf + i)).unknown }) :
    afterReads k (i + 1) t = afterReads (k + 1) i s := by
  have hany : ((List.range (k + 1)).any fun j => s.rxOwns (s.txBuf + (i + BitVec.ofNat 32 j))) =
      (s.rxOwns (s.txBuf + i) || (List.range k).any fun j => t.rxOwns (t.txBuf + (i + 1 + BitVec.ofNat 32 j))) := by
    rw [ht, List.range_succ_eq_map, List.any_cons, List.any_map]
    simp only [word_shift]
    simp [Function.comp_def, State.rxOwns]
  unfold afterReads
  rw [hany, show t.sync = s.sync by rw [ht]; rfl]
  cases hs : s.sync with
  | true => simp [ht, State.blockTouch, hs]
  | false =>
    cases ho : s.rxOwns (s.txBuf + i) with
    | false =>
      have e : t.unknown = s.unknown := by rw [ht]; simp [State.blockTouch, State.touchRx, hs, ho]
      have e2 : t.spoil.unknown = s.spoil.unknown := by
        rw [ht] at e ⊢
        have e' : (s.blockTouch (s.txBuf + i)).unknown = s.unknown := e
        rw [e']; rfl
      simp [e, e2]
    | true =>
      have e : t.unknown = s.spoil.unknown := by rw [ht]; simp [State.blockTouch, State.touchRx, hs, ho]
      have e2 : t.spoil.unknown = s.spoil.unknown := by
        have h := congrArg State.unknown (spoil_spoil s)
        rw [ht] at e ⊢
        have e' : (s.blockTouch (s.txBuf + i)).unknown = s.spoil.unknown := e
        rw [e']; exact h
      simp [e, e2]

/-- Writing `k` buffer characters (R170, R65): each is a byte the memory holds, one it held before a race, or, where the
byte is unknown, any byte (R72, U2). -/
theorem pushChars_buffer {k : Nat} : ∀ {i : Word} {s : State}, s.txSrc = .buffer →
    (∀ j < k, s.params.memAdmits .read (s.txBuf + (i + BitVec.ofNat 32 j)) = true) →
    ∃ (bs : List Byte) (d : Nat), bs.length = k ∧
      (∀ j < k, (s.blockTouch (s.txBuf + (i + BitVec.ofNat 32 j))).unknownAt (s.txBuf + (i + BitVec.ofNat 32 j)) = true ∨
        bs.getD j 0 = s.readByte (s.txBuf + (i + BitVec.ofNat 32 j)) ∨
        bs.getD j 0 ∈ s.staleAt (s.txBuf + (i + BitVec.ofNat 32 j))) ∧
      pushChars k i s = .next { s with
        draws := d
        unknown := afterReads k i s
        out := s.out ++ (List.range k).flatMap fun j =>
          [.memRead (s.txBuf + (i + BitVec.ofNat 32 j)), .thr (bs.getD j 0)] } := by
  induction k with
  | zero =>
    intro i s _ _
    exact ⟨[], s.draws, rfl, fun j hj => absurd hj (Nat.not_lt_zero j), by simp [pushChars, afterReads]⟩
  | succ k ih =>
    intro i s hs hadm
    have h0 : s.params.memAdmits .read (s.txBuf + i) = true := by simpa using hadm 0 (by omega)
    obtain ⟨r, hr⟩ := loadByte_admitted h0
    obtain ⟨-, hb, d, hu⟩ := loadByte_next hr
    obtain ⟨t, ht⟩ : ∃ t, t = r.2.emit (.thr r.1) := ⟨_, rfl⟩
    have ht' : t = { s with
        out := s.out ++ [.memRead (s.txBuf + i), .thr r.1], draws := d
        unknown := (s.blockTouch (s.txBuf + i)).unknown } := by
      rw [ht, hu]; simp [State.emit]
    have hbuf : t.txBuf = s.txBuf := by rw [ht']
    have hpar : t.params = s.params := by rw [ht']
    obtain ⟨bs, d', hlen, hbs, hpush⟩ := ih (i := i + 1) (s := t) (by rw [ht']; exact hs) (by
      intro j hj
      rw [hbuf, hpar, word_shift]
      exact hadm (j + 1) (by omega))
    refine ⟨r.1 :: bs, d', by simp [hlen], ?_, ?_⟩
    · intro j hj
      rcases j with _ | j
      · simpa using hb
      · have hj' := hbs j (by omega)
        rw [hbuf, word_shift] at hj'
        rw [List.getD_cons_succ]
        rcases hj' with h | h
        · refine .inl (blockTouch_blockTouch_unknownAt s (s.txBuf + i) _ ?_)
          have e : t = { s.blockTouch (s.txBuf + i) with
              out := s.out ++ [.memRead (s.txBuf + i), .thr r.1], draws := d } := by rw [blockTouch_eq, ht']
          rw [blockTouch_unknownAt] at h ⊢
          rw [e] at h
          exact h
        · refine .inr ?_
          rw [ht'] at h
          exact h
    · have h1 : txByte i s = .next r := by simp only [txByte, hs]; exact hr
      rw [pushChars, h1, andThen_next, ← ht, hpush, afterReads_succ k i s t d _ ht', hbuf, ht']
      simp only [word_shift, List.range_succ_eq_map, List.flatMap_cons, List.flatMap_map]
      simp [Nat.succ_eq_add_one]

/-- Everything ARM_TX can do (R173). -/
theorem armTx_next {s t : State} (h : armTx s = .next t) :
    ∃ acts d u c e, t = { s with out := s.out ++ acts, draws := d, unknown := u, txCnt := c, ier := e } ∧
      acts.all (fun a => !a.isCallback) = true ∧
      (∃ ch, s.params.txDma = some ch ∧ acts = [.dmaProgram (s.txRequest ch)] ∧ c = s.txCnt ∧ e = s.ier ∨
        s.params.txDma = none ∧ acts.countP Action.isThr = min 16 s.txNum.toNat ∧
          acts.countP Action.isDmaProgram = 0 ∧ c = BitVec.ofNat 32 (min 16 s.txNum.toNat) ∧ e = ierPut s.ier 1 true) := by
  unfold armTx at h
  split at h
  · rename_i ch hch
    obtain ⟨-, rfl⟩ := dmaProgram_next h
    exact ⟨[.dmaProgram (s.txRequest ch)], s.draws, s.unknown, s.txCnt, s.ier, rfl, rfl, ch, .inl ⟨hch, rfl, rfl, rfl⟩⟩
  · rename_i hch
    rw [andThen_eq_next] at h
    obtain ⟨u, hu, h⟩ := h
    obtain ⟨acts, d, u', rfl, hn, hall⟩ := pushChars_next hu
    cases h
    refine ⟨acts, d, u', _, _, rfl, ?_, 0, .inr ⟨hch, hn, ?_, rfl, rfl⟩⟩
    · simp only [List.all_eq_true] at hall ⊢
      intro a ha
      have := hall a ha
      simp_all
    · rw [List.countP_eq_zero]
      simp only [List.all_eq_true] at hall
      intro a ha
      have := hall a ha
      simp_all

/-- Everything ARM_RX can do (R174). -/
theorem armRx_next {s t : State} (h : armRx s = .next t) :
    (∃ ch, s.params.rxDma = some ch ∧ t = (s.putRlse true).emit (.dmaProgram (s.rxRequest ch))) ∨
      s.params.rxDma = none ∧ t = (s.putRlse true).putRxe true := by
  unfold armRx at h
  split at h
  · rename_i ch hch
    obtain ⟨-, rfl⟩ := dmaProgram_next h
    exact .inl ⟨ch, hch, rfl⟩
  · cases h
    exact .inr ⟨‹_›, rfl⟩

/-- The outputs of stopping a side (R175, R176). -/
def stopActions (busy : Bool) (chan : Option Nat) (powered : Bool) (side : Side) : List Action :=
  (if busy then match chan with
    | some ch => [.dmaDisable ch]
    | none => []
  else []) ++ if powered then [.fifoReset side] else []

/-- ABORT_TX, whole (R175). -/
theorem abortTx_eq (s : State) :
    abortTx s = { s with
      ier := ierPut s.ier 1 false
      sendActive := false
      out := s.out ++ stopActions s.sendActive s.params.txDma s.lc.isPowered .tx } := by
  unfold abortTx disableChannel resetFifo stopActions
  cases s.sendActive <;> cases hch : s.params.txDma <;> cases hp : s.lc.isPowered <;>
    simp [State.emit, State.putThree, hp]

/-- ABORT_RX, whole (R176). -/
theorem abortRx_eq (s : State) :
    abortRx s = { s with
      ier := ierPut (ierPut s.ier 0 false) 2 false
      rxBusy := false
      out := s.out ++ stopActions s.rxBusy s.params.rxDma s.lc.isPowered .rx } := by
  unfold abortRx disableChannel resetFifo stopActions
  cases s.rxBusy <;> cases hch : s.params.rxDma <;> cases hp : s.lc.isPowered <;>
    simp [State.emit, State.putRxe, State.putRlse, hp]

/-- POWER_DOWN, whole (R143). -/
theorem powerDown_eq (s : State) :
    powerDown s = { s with
      ier := 0
      sendActive := false
      rxBusy := false
      syncTag := .none
      out := s.out ++ stopActions s.sendActive s.params.txDma s.lc.isPowered .tx ++
        stopActions s.rxBusy s.params.rxDma s.lc.isPowered .rx } := by
  simp [powerDown, abortRx_eq, abortTx_eq]

/-- Stopping a side raises no event, writes no character and programs nothing. -/
theorem stopActions_quiet (busy : Bool) (chan : Option Nat) (powered : Bool) (side : Side) :
    (stopActions busy chan powered side).all (fun a => !a.isCallback && !a.isThr && !a.isDmaProgram) = true := by
  cases busy <;> cases chan <;> cases powered <;> rfl

end Sys2Proof.Machine
end

