-- ==== Sys2Proof/Laws/Interrupts.lean ====
section
/-! SUPPORT. What a drain can do (spec/43_dispatcher.md R224): the characters stored, the bytes made known, the rest unchanged. -/

namespace Sys2Proof.Machine

/-- What draining one character emits. -/
def drainAction (s : State) (a : Addr) (c : Byte) : List Action :=
  match s.rxDst with
  | .buffer => [.rxRead, .memWrite a c]
  | .discard => [.rxRead]

/-- One drained character: stored at RX_BUF + RX_CNT, where the platform admits it (R224, R65, R66, R76). -/
theorem drainChar_ok {c : Byte} {s : State}
    (hadm : s.rxDst = .buffer → s.params.memAdmits .write (s.rxBuf + s.rxCnt) = true) :
    ∃ m old u d,
      drainChar c s = .next { s with
        fifo := s.fifo.tail, out := s.out ++ drainAction s (s.rxBuf + s.rxCnt) c
        mem := m, stale := old, unknown := u, draws := d } ∧
      (Memory.wf s.mem = true → Memory.wf m = true ∧ ∀ a : Addr, m.read a.toNat =
        if s.rxDst = .buffer ∧ a = s.rxBuf + s.rxCnt ∧ a ≠ s.params.dumpAddr then c else s.mem.read a.toNat) ∧
      (s.params.rxDma = none → ∀ a : Addr, covered u a = true ↔
        covered s.unknown a = true ∧ ¬(s.rxDst = .buffer ∧ a = s.rxBuf + s.rxCnt ∧ a ≠ s.params.dumpAddr)) := by
  by_cases hs : s.rxDst = .buffer
  swap
  · have hs' : s.rxDst = .discard := by
      cases h : s.rxDst
      · exact absurd h hs
      · rfl
    refine ⟨s.mem, s.stale, s.unknown, s.draws, ?_, fun hw => ⟨hw, ?_⟩, ?_⟩
    · have h1 : drainChar c s = .next s.rxRead := by simp only [drainChar, hs']
      have h2 : drainAction s (s.rxBuf + s.rxCnt) c = [.rxRead] := by simp only [drainAction, hs']
      rw [h1, h2]; rfl
    · simp [hs]
    · simp [hs]
  · have h1 : drainChar c s =
        .next ((s.rxRead.emit (.memWrite (s.rxBuf + s.rxCnt) c)).writeByte (s.rxBuf + s.rxCnt) c) := by
      simp only [drainChar, hs, storeByte]
      exact if_pos (hadm hs)
    obtain ⟨v, hv⟩ : ∃ v, v = s.rxRead.emit (.memWrite (s.rxBuf + s.rxCnt) c) := ⟨_, rfl⟩
    obtain ⟨m, old, u, d, hw⟩ := writeByte_eq v (s.rxBuf + s.rxCnt) c
    have hm : m = (v.writeByte (s.rxBuf + s.rxCnt) c).mem := by rw [hw]
    have hu : u = (v.writeByte (s.rxBuf + s.rxCnt) c).unknown := by rw [hw]
    refine ⟨m, old, u, d, ?_, ?_, ?_⟩
    · rw [h1, ← hv, hw, hv]
      simp [drainAction, hs, State.rxRead, State.emit]
    · intro hwf
      rw [hm, writeByte_mem, hv]
      refine ⟨?_, fun a => ?_⟩
      · split
        · exact hwf
        · exact Memory.wf_write (BitVec.isLt _) hwf
      · by_cases hd : s.rxBuf + s.rxCnt = s.params.dumpAddr
        · show Memory.read (if s.rxBuf + s.rxCnt = s.params.dumpAddr then s.mem else _) _ = _
          rw [if_pos hd, if_neg (by rintro ⟨-, h1, h2⟩; exact h2 (h1.trans hd))]
        · show Memory.read (if s.rxBuf + s.rxCnt = s.params.dumpAddr then _ else Memory.write s.mem _ _) _ = _
          rw [if_neg hd]
          rw [Memory.read_write hwf]
          by_cases ha : a = s.rxBuf + s.rxCnt
          · rw [if_pos (by rw [ha]), if_pos ⟨hs, ha, by rw [ha]; exact hd⟩]
          · rw [if_neg (fun h => ha (BitVec.eq_of_toNat_eq h)), if_neg (fun h => ha h.2.1)]
    · intro hn a
      have hcov : covered (v.unknownBut (s.rxBuf + s.rxCnt)) a =
          (covered s.unknown a && !decide (a = s.rxBuf + s.rxCnt)) := by
        rw [covered_unknownBut, show v.params.rxDma = none by rw [hv]; exact hn, hv]
        simp
      rw [hu, State.writeByte]
      by_cases hd : s.rxBuf + s.rxCnt = s.params.dumpAddr
      · rw [if_pos (show _ = v.params.dumpAddr by rw [hv]; exact hd), hv]
        show covered s.unknown a = true ↔ _
        constructor
        · exact fun h => ⟨h, by rintro ⟨-, rfl, h'⟩; exact h' hd⟩
        · exact fun h => h.1
      · rw [if_neg (show ¬_ = v.params.dumpAddr by rw [hv]; exact hd)]
        show covered (v.unknownBut (s.rxBuf + s.rxCnt)) a = true ↔ _
        rw [hcov]
        simp only [Bool.and_eq_true, Bool.not_eq_true', decide_eq_false_iff_not, hs, true_and]
        constructor
        · exact fun h => ⟨h.1, fun h' => h.2 h'.1⟩
        · exact fun h => ⟨h.1, fun h' => h.2 ⟨h', by rw [h']; exact hd⟩⟩

/-- The characters `cs` drained: the count, the FIFO input, the outputs, every byte of memory, and in the interrupt path which
bytes stay unknown (R224, R65, R66, R76, R297). -/
theorem drainChars_ok : ∀ (cs : List Byte) (s : State),
    (s.rxDst = .buffer →
      ∀ j < cs.length, s.params.memAdmits .write (s.rxBuf + (s.rxCnt + BitVec.ofNat 32 j)) = true) →
    ∃ m old u d,
      drainChars cs s = .next { s with
        rxCnt := s.rxCnt + BitVec.ofNat 32 cs.length
        fifo := s.fifo.drop cs.length
        out := s.out ++ (List.range cs.length).flatMap fun j =>
          drainAction s (s.rxBuf + (s.rxCnt + BitVec.ofNat 32 j)) (cs.getD j 0)
        mem := m, stale := old, unknown := u, draws := d } ∧
      (cs.length < 2 ^ 32 →
        (Memory.wf s.mem = true → Memory.wf m = true ∧ ∀ a : Addr, m.read a.toNat =
          if s.rxDst = .buffer ∧ (a - (s.rxBuf + s.rxCnt)).toNat < cs.length ∧ a ≠ s.params.dumpAddr then
            cs.getD (a - (s.rxBuf + s.rxCnt)).toNat 0
          else s.mem.read a.toNat) ∧
        (s.params.rxDma = none → ∀ a : Addr, covered u a = true ↔ covered s.unknown a = true ∧
          ¬(s.rxDst = .buffer ∧ (a - (s.rxBuf + s.rxCnt)).toNat < cs.length ∧ a ≠ s.params.dumpAddr))) := by
  intro cs
  induction cs with
  | nil => intro s _; exact ⟨s.mem, s.stale, s.unknown, s.draws, by simp [drainChars], fun _ => by simp⟩
  | cons c cs ih =>
    intro s hadm
    obtain ⟨m, old, u, d, h1, hm1, hu1⟩ := drainChar_ok (c := c) (s := s) (fun hs => by simpa using hadm hs 0 (by simp))
    obtain ⟨t, ht⟩ : ∃ t : State, t = { s with
        rxCnt := s.rxCnt + 1, fifo := s.fifo.tail, out := s.out ++ drainAction s (s.rxBuf + s.rxCnt) c
        mem := m, stale := old, unknown := u, draws := d } := ⟨_, rfl⟩
    have hbuf : t.rxBuf = s.rxBuf := by rw [ht]
    have hcnt : t.rxCnt = s.rxCnt + 1 := by rw [ht]
    have hdst : t.rxDst = s.rxDst := by rw [ht]
    have hpar : t.params = s.params := by rw [ht]
    obtain ⟨m', old', u', d', h2, h3⟩ := ih t (by
      intro hs j hj
      rw [hbuf, hcnt, hpar, word_shift]
      exact hadm (by rw [← hdst]; exact hs) (j + 1) (by simp; omega))
    refine ⟨m', old', u', d', ?_, ?_⟩
    · rw [drainChars, h1, andThen_next]
      refine Eq.trans (b := drainChars cs t) (by rw [ht]) ?_
      rw [h2, ht]
      have hact : ∀ (a : Addr) (b : Byte), drainAction t a b = drainAction s a b := by
        intro a b; simp only [drainAction, hdst]
      rw [ht] at hact
      simp only [word_shift, hact, List.length_cons, List.range_succ_eq_map, List.flatMap_cons, List.flatMap_map]
      simp [Nat.succ_eq_add_one]
    · intro hl
      have hl' : cs.length < 2 ^ 32 := by simp at hl; omega
      have key : ∀ a : Addr, (a - (s.rxBuf + s.rxCnt)).toNat < (c :: cs).length ↔
          a = s.rxBuf + s.rxCnt ∨ (a - (s.rxBuf + (s.rxCnt + 1))).toNat < cs.length ∧ a ≠ s.rxBuf + s.rxCnt := by
        intro a
        generalize s.rxBuf = x
        generalize s.rxCnt = y at *
        simp only [List.length_cons] at hl ⊢
        by_cases ha : a = x + y
        · subst ha; simp
        · have : (a - (x + y)).toNat = (a - (x + (y + 1))).toNat + 1 := by
            have h0 : a.toNat ≠ (x + y).toNat := fun h => ha (BitVec.eq_of_toNat_eq h)
            bv_omega
          simp only [ha, false_or, ne_eq, not_false_eq_true, and_true]
          omega
      have idx : ∀ a : Addr, a ≠ s.rxBuf + s.rxCnt →
          (a - (s.rxBuf + s.rxCnt)).toNat = (a - (s.rxBuf + (s.rxCnt + 1))).toNat + 1 := by
        intro a ha
        generalize s.rxBuf = x at *
        generalize s.rxCnt = y at *
        have h0 : a.toNat ≠ (x + y).toNat := fun h => ha (BitVec.eq_of_toNat_eq h)
        bv_omega
      have far : ¬((s.rxBuf + s.rxCnt) - (s.rxBuf + (s.rxCnt + 1))).toNat < cs.length := by
        generalize s.rxBuf = x at *
        generalize s.rxCnt = y at *
        bv_omega
      obtain ⟨h4, h5⟩ := h3 hl'
      rw [hbuf, hcnt, hdst, hpar] at h4 h5
      refine ⟨fun hw => ?_, fun hn a => ?_⟩
      · have hwm := (hm1 hw).1
        obtain ⟨h6, h7⟩ := h4 (by rw [ht]; exact hwm)
        refine ⟨h6, fun a => ?_⟩
        rw [h7 a, show t.mem = m by rw [ht], (hm1 hw).2 a]
        by_cases ha : a = s.rxBuf + s.rxCnt
        · subst ha
          rw [if_neg (fun h => far h.2.1)]
          simp
        · have hk := key a
          simp only [ha, false_or, ne_eq, not_false_eq_true, and_true] at hk
          rw [idx a ha]
          simp [ha]
      · rw [h5 hn a, show t.unknown = u by rw [ht], hu1 hn a]
        have hk := key a
        by_cases ha : a = s.rxBuf + s.rxCnt
        · subst ha
          simp only [far, false_and, and_false, not_false_eq_true, and_true, BitVec.sub_self, true_and]
          simp
        · simp only [ha, false_or, ne_eq, not_false_eq_true, and_true] at hk
          rw [hk]
          simp [ha]

end Sys2Proof.Machine
end

