-- ==== Sys2Proof/Laws/PerInstr.lean ====
section
/-! SUPPORT. Per instruction: decoding the encoded instruction gives it back (spec/30_encoding.md R85 to R97). -/

namespace Sys2Proof.Laws.RoundTrip

def Statement (i : Instr) : Prop := decode (encode i) = .ok i

theorem initialise : Statement .initialise := rfl
theorem uninitialize : Statement .uninitialize := rfl
theorem powerControl : Statement .powerControl := rfl
theorem configure : Statement .configure := rfl
theorem setTxFill : Statement .setTxFill := rfl
theorem send : Statement .send := rfl
theorem receive : Statement .receive := rfl
theorem transfer : Statement .transfer := rfl
theorem getTxCount : Statement .getTxCount := rfl
theorem getRxCount : Statement .getRxCount := rfl
theorem getStatus : Statement .getStatus := rfl
theorem abortSend : Statement .abortSend := rfl
theorem abortReceive : Statement .abortReceive := rfl
theorem abortTransfer : Statement .abortTransfer := rfl
theorem irqNone (id : BitVec 3) : Statement (.irqNone id) := by
  unfold Statement
  revert id
  decide
theorem irqThre : Statement .irqThre := rfl
theorem irqRls : Statement .irqRls := rfl
theorem irqRda : Statement .irqRda := rfl
theorem irqCti : Statement .irqCti := rfl
theorem irqMs : Statement .irqMs := rfl
theorem irqReserved8 : Statement .irqReserved8 := rfl
theorem irqReservedA : Statement .irqReservedA := rfl
theorem irqReservedE : Statement .irqReservedE := rfl
theorem dmaTxOk : Statement .dmaTxOk := rfl
theorem dmaRxOk : Statement .dmaRxOk := rfl
theorem dmaTxError : Statement .dmaTxError := rfl
theorem dmaRxError : Statement .dmaRxError := rfl

end Sys2Proof.Laws.RoundTrip
end

