-- ==== Sys2Proof/Laws/Step.lean ====
section
/-! SUPPORT. What one step can do (spec/10_state.md R21): it takes the first pending request, and runs its instruction or serves
it. -/

namespace Sys2Proof.Machine

theorem step_cons {s : State} {r : Request} {rest : List Request} (h : s.pending = r :: rest) :
    step s = match instrOf r with
      | some i => exec i ({ s with pending := rest }.withInputs r)
      | none => serve r { s with pending := rest } := by
  unfold step
  split
  · rename_i hp
    rw [h] at hp
    cases hp
  · rename_i r' rest' hp
    rw [h] at hp
    cases hp
    cases instrOf r <;> rfl

/-- Everything a step can do. -/
theorem step_cases {s t : State} (h : step s = .next t) :
    ∃ r rest, s.pending = r :: rest ∧
      ((∃ i, instrOf r = some i ∧ exec i ({ s with pending := rest }.withInputs r) = .next t) ∨
        instrOf r = none ∧ serve r { s with pending := rest } = .next t) := by
  cases hp : s.pending with
  | nil => simp [step, hp] at h
  | cons r rest =>
    rw [step_cons hp] at h
    refine ⟨r, rest, rfl, ?_⟩
    cases hi : instrOf r with
    | some i => rw [hi] at h; exact .inl ⟨i, rfl, h⟩
    | none => rw [hi] at h; exact .inr ⟨rfl, h⟩

/-- Everything serving a request that runs no instruction can do. -/
theorem serve_cases {r : Request} {s t : State} (h : serve r s = .next t) (hi : instrOf r = none) :
    (∃ off bytes w p, r = .hostWrite off bytes w p ∧ off = cmdOffset ∧
        t = { s with result := ResultCode.illegalCommand.bits }) ∨
    (∃ off bytes w p, r = .hostWrite off bytes w p ∧ off ≠ cmdOffset ∧ t = s.windowWrite off w) ∨
    (∃ off bytes, r = .hostRead off bytes ∧ t = { s with rdata := s.windowRead off }) ∨
    (r = .reset ∧ t = resetBlock s) ∨
    (∃ agent a v, r = .memWrite agent a v ∧ t = externalWrite agent a v s) ∨
    (∃ agent a, r = .memRead agent a ∧ t = externalRead agent a s) := by
  cases r with
  | hostWrite off bytes w p =>
    simp only [serve] at h
    split at h
    · split at h
      · cases h
        exact .inl ⟨off, bytes, w, p, rfl, ‹_›, rfl⟩
      · cases h
        exact .inr (.inl ⟨off, bytes, w, p, rfl, ‹_›, rfl⟩)
    · cases h
  | hostRead off bytes =>
    simp only [serve] at h
    split at h
    · cases h
      exact .inr (.inr (.inl ⟨off, bytes, rfl, rfl⟩))
    · cases h
  | irq c l m f => cases hi
  | dma c => cases hi
  | reset => cases h; exact .inr (.inr (.inr (.inl ⟨rfl, rfl⟩)))
  | memWrite agent a v => cases h; exact .inr (.inr (.inr (.inr (.inl ⟨agent, a, v, rfl, rfl⟩))))
  | memRead agent a => cases h; exact .inr (.inr (.inr (.inr (.inr ⟨agent, a, rfl, rfl⟩))))

end Sys2Proof.Machine
end

