-- ==== Sys2Proof/Tests/Slice0.lean ====
section
/-! SUPPORT. Small tests. Expected values are those of spec/95_test_vectors.md (named by their ids L2-… and P…) or of the rule's own
example. Witnesses that meet a statement's hypotheses are in the second half. -/

namespace Sys2Proof.Tests

set_option Elab.async false

open Sys2Proof.Machine

/-! ## Helpers -/

/-- The construction the vectors assume unless they say otherwise. -/
def plain : Params where
  cap := default
  txDma := none
  rxDma := none
  thrAddr := 0x40000000
  rbrAddr := 0x40000004
  fillAddr := 0x40000008
  dumpAddr := 0x4000000C
  tolPct := Config.tolPctDefault
  clockCfgOk := Config.clockCfgDefault
  memHoles := []
  dmaHoles := []
  regBase := 0x50000000
  rxTrigger := 0

/-- CAP.sync_master and CAP.sync_slave. -/
def syncCaps : Params := { plain with cap := { plain.cap with syncMaster := true, syncSlave := true } }

/-- The same with both sides on the transfer engine. -/
def engine : Params := { syncCaps with txDma := some 0, rxDma := some 1 }

/-- All modem lines and their events. -/
def modem : Params :=
  { plain with
    cap := { plain.cap with
      cts := true, dsr := true, dcd := true, ri := true
      eventCts := true, eventDsr := true, eventDcd := true, eventRi := true } }

/-- "Configured async" of 95_test_vectors.md. -/
def async (p : Params) : State :=
  { State.reset with
    params := p, lc := .configured, cbReg := true, cfg := 0x018, div := 71, mulval := 10, divaddval := 1, baud := 9603 }

/-- "Configured sync master". -/
def sync (p : Params) : State :=
  { State.reset with
    params := p, lc := .configured, cbReg := true, cfg := 0x019, div := 4, mulval := 8, divaddval := 5, baud := 115384 }

/-- A state with its arguments. -/
def args (s : State) (a b c : Word) : State := { s with arg0 := a, arg1 := b, arg2 := c }

/-- The step has a next state, and it passes `p`. -/
def shows (o : Result) (p : State → Bool) : Bool :=
  match o with
  | .next t => p t
  | .fault _ => false
  | .refused _ => false

/-- The refusal, if the step is one. -/
def refusal (o : Result) : Option Refusal :=
  match o with
  | .next _ => none
  | .fault _ => none
  | .refused r => some r

/-- The fault, if the step is one. -/
def fault (o : Result) : Option Fault :=
  match o with
  | .next _ => none
  | .fault r => some r
  | .refused _ => none

/-- A transmit of `num` bytes at 0x20000000 of which `cnt` are written, in the interrupt path. -/
def sending (num cnt : Word) : State :=
  { async plain with
    sendActive := true, txBuf := 0x20000000, txNum := num, txCnt := cnt, ier := 0b0010
    mem := [(0x20000000, 0x41), (0x20000001, 0x42), (0x20000010, 0x51), (0x20000011, 0x52), (0x20000012, 0x53),
      (0x20000013, 0x54)] }

/-- A receive of `num` bytes at 0x20001000 of which `cnt` have come, in the interrupt path, with a FIFO input. -/
def receiving (num cnt : Word) (fifo : List Byte) : State :=
  { async plain with
    rxBusy := true, rxBuf := 0x20001000, rxNum := num, rxCnt := cnt, ier := 0b0101, fifo := fifo }

/-- The transfer of P5 after its step 1, on the engine. -/
def transferring : State :=
  { sync engine with
    sendActive := true, txBuf := 0x20000000, txNum := 8, rxBusy := true, rxBuf := 0x20001000, rxNum := 8
    syncTag := .txAndRx, ier := 0b0100 }

/-- A synchronous transfer in the interrupt path whose two buffers overlap: 16 of 20 bytes sent, 2 of 4 received. -/
def overlapping : State :=
  { sync syncCaps with
    sendActive := true, txBuf := 0x20001000, txNum := 20, txCnt := 16
    rxBusy := true, rxBuf := 0x20001000, rxNum := 4, rxCnt := 2
    syncTag := .txAndRx, ier := 0b0111, mem := [(0x20001002, 0x55)] }

/-- The synchronous receive of P4 after its step 6. -/
def receivingSync : State :=
  { sync syncCaps with
    sendActive := true, txSrc := .fill, txBuf := 0x40000008, txNum := 3, txCnt := 3
    rxBusy := true, rxBuf := 0x20002000, rxNum := 3, syncTag := .rxOnly, ier := 0b0111 }

/-! ## Well-formedness of requests (20_memory.md R62, R64) -/

theorem test_wf_word : Request.wf (.hostWrite 0x04 4 0 0) = true ∧ Request.wf (.hostRead 0x7C 4) = true := by decide
theorem test_wf_narrow_write : Request.wf (.hostWrite 0x04 2 0 0) = false := by decide
theorem test_wf_misaligned_write : Request.wf (.hostWrite 0x06 4 0 0) = false := by decide
theorem test_wf_narrow_read : Request.wf (.hostRead 0x10 1) = false := by decide
theorem test_wf_misaligned_read : Request.wf (.hostRead 0x11 4) = false := by decide

/-! ## Decoding (30_encoding.md R86, R87, R93, R97) -/

/-- RSV 24 bits of 0, then OPC 0001_0000. -/
theorem test_decode_send_bits : decode (.command (0b000000000000000000000000#24 ++ 0b00010000#8)) = .ok .send := by decide
/-- OPC 0000_0100. -/
theorem test_decode_configure_bits :
    decode (.command (0b000000000000000000000000#24 ++ 0b00000100#8)) = .ok .configure := by decide
/-- Interrupt id 110 (CTI), interrupt status 0 (pending). -/
theorem test_decode_cti_bits : decode (.iir (0b110#3 ++ 0b0#1)) = .ok .irqCti := by decide
/-- STATUS 1 (ERROR), SIDE 0 (TX). -/
theorem test_decode_tx_error_bits : decode (.completion (0b1#1 ++ 0b0#1)) = .ok .dmaTxError := by decide
theorem test_table_commands :
    decodeTableWord 32 0x01 = some .initialise ∧ decodeTableWord 32 0x02 = some .uninitialize ∧
    decodeTableWord 32 0x03 = some .powerControl ∧ decodeTableWord 32 0x04 = some .configure ∧
    decodeTableWord 32 0x05 = some .setTxFill ∧ decodeTableWord 32 0x10 = some .send ∧
    decodeTableWord 32 0x11 = some .receive ∧ decodeTableWord 32 0x12 = some .transfer ∧
    decodeTableWord 32 0x13 = some .getTxCount ∧ decodeTableWord 32 0x14 = some .getRxCount ∧
    decodeTableWord 32 0x15 = some .getStatus ∧ decodeTableWord 32 0x16 = some .abortSend ∧
    decodeTableWord 32 0x17 = some .abortReceive ∧ decodeTableWord 32 0x18 = some .abortTransfer := by decide
theorem test_table_interrupts :
    decodeTableWord 4 0b0101 = some (.irqNone 0b010) ∧ decodeTableWord 4 0b0010 = some .irqThre ∧
    decodeTableWord 4 0b0110 = some .irqRls ∧ decodeTableWord 4 0b0100 = some .irqRda ∧
    decodeTableWord 4 0b1100 = some .irqCti ∧ decodeTableWord 4 0b0000 = some .irqMs ∧
    decodeTableWord 4 0b1000 = some .irqReserved8 ∧ decodeTableWord 4 0b1010 = some .irqReservedA ∧
    decodeTableWord 4 0b1110 = some .irqReservedE := by decide
theorem test_table_completions :
    decodeTableWord 2 0b00 = some .dmaTxOk ∧ decodeTableWord 2 0b01 = some .dmaRxOk ∧
    decodeTableWord 2 0b10 = some .dmaTxError ∧ decodeTableWord 2 0b11 = some .dmaRxError := by decide
/-- L2-E6, L2-E7. -/
theorem test_table_reserved : decodeTableWord 32 0x110 = none ∧ decodeTableWord 32 0x80000001 = none := by decide
/-- The instruction placed by withFetchWord runs at the next step, from the reset state too. -/
theorem test_fetch_reset :
    shows (step (State.reset.withFetchWord 32 0x01)) (fun t => t.lc = .initialized ∧ t.result = 0 ∧
      t.pending = []) := by decide +kernel
theorem test_fetch_completion :
    shows (step (transferring.withFetchWord 2 0b01)) (fun t => t.rxCnt = 8 ∧ t.rxBusy = false) := by decide +kernel

/-! ## The solver (40_baud_solver.md; L2-S) -/

/-- L2-S2, L2-S17, L2-S21. -/
theorem test_solve_ok :
    solve 3 12000000 115200 = .ok 8 5 4 115384 ∧ solve 3 48000000 115200 = .ok 15 8 17 115089 ∧
      solve 3 48 2 = .ok 2 1 1 2 := by decide +kernel
/-- L2-S26, L2-S27 (the comparison is strict), L2-S12, L2-S32. -/
theorem test_solve_edges :
    solve 3 1552 100 = .ok 1 0 1 97 ∧ solve 3 1551 100 = .outOfTolerance ∧ solve 3 12000000 1 = .noDivisor ∧
      solve 3 4294967295 4294967295 = .noDivisor := by decide +kernel

/-! ## The commands (L2-L, L2-T, P1 to P6) -/

/-- L2-L2: STATE reads 5. -/
theorem test_initialise :
    shows (exec .initialise (args { State.reset with params := plain } 1 0 0)) (fun t => t.result = 0 ∧
      t.stateView = 0x00000005) := by decide +kernel
/-- L2-L1. -/
theorem test_initialise_reserved :
    shows (exec .initialise (args { State.reset with params := plain } 2 0 0)) (fun t => t.result = 1 ∧
      t.lc = .unpowered) := by decide +kernel
/-- L2-L33: the transfer is aborted, DIV stays 71. -/
theorem test_uninitialize :
    shows
        (exec .uninitialize
          { async engine with sendActive := true, txBuf := 0x20000000, txNum := 4, txCnt := 0 })
        (fun t => t.result = 0 ∧ t.lc = .unpowered ∧ t.cbReg = false ∧ t.txNum = 0 ∧ t.baud = 0 ∧ t.div = 71 ∧
          t.out = [.dmaDisable 0, .fifoReset .tx, .fifoReset .rx]) := by decide +kernel
/-- L2-L32: TX_CNT is kept. -/
theorem test_power_off :
    shows (exec .powerControl (args (sending 4 4) 0 0 0))
        (fun t => t.result = 0 ∧ t.lc = .initialized ∧ t.sendActive = false ∧ t.ier = 0 ∧ t.txCnt = 4 ∧
          t.out = [.fifoReset .tx, .fifoReset .rx]) := by decide +kernel
/-- L2-L11. -/
theorem test_power_full :
    shows (exec .powerControl (args { State.reset with params := modem, lc := .initialized } 2 0 0))
        (fun t => t.result = 0 ∧ t.lc = .powered ∧ t.ier = 0b1000) := by decide +kernel
/-- P4 step 5. -/
theorem test_configure :
    shows (exec .configure (args { State.reset with params := syncCaps, lc := .powered, pclk := 12000000 } 115200 0x019 0))
        (fun t => t.result = 0 ∧ t.lc = .configured ∧ t.cfg = 0x019 ∧ t.div = 4 ∧ t.mulval = 8 ∧ t.divaddval = 5 ∧
          t.baud = 115384) := by decide +kernel
/-- L2-L21: the capability is checked before Busy. -/
theorem test_configure_capability :
    shows (exec .configure (args (sending 4 4) 19200 0x019 0)) (fun t => t.result = 6 ∧ t.cfg = 0x018) := by
  decide +kernel
/-- L2-L14. -/
theorem test_fill_reserved :
    shows (exec .setTxFill (args (async plain) 0x100 0 0)) (fun t => t.result = 1 ∧ t.txFill = 0) := by
  decide +kernel
/-- L2-L15. -/
theorem test_fill :
    shows (exec .setTxFill (args (async plain) 0x55 0 0)) (fun t => t.result = 0 ∧ t.txFill = 0x55) := by
  decide +kernel
/-- L2-T4. -/
theorem test_send :
    shows (exec .send (args { async plain with mem := [(0x20000000, 0x41), (0x20000001, 0x42)] } 0x20000000 2 0))
        (fun t => t.result = 0 ∧ t.txCnt = 2 ∧ t.ier = 0b0010 ∧
          t.out = [.memRead 0x20000000, .thr 0x41, .memRead 0x20000001, .thr 0x42]) := by decide +kernel
/-- L2-T15: addresses wrap. -/
theorem test_send_wraps :
    shows
        (exec .send
          (args { async plain with mem := [(0, 0xA2), (1, 0xA3), (0xFFFFFFFE, 0xA0), (0xFFFFFFFF, 0xA1)] } 0xFFFFFFFE 4 0))
        (fun t => t.out = [.memRead 0xFFFFFFFE, .thr 0xA0, .memRead 0xFFFFFFFF, .thr 0xA1, .memRead 0, .thr 0xA2, .memRead 1, .thr 0xA3]) := by decide +kernel
/-- P4 step 6: a synchronous receive sends dummy characters. -/
theorem test_receive_sync :
    shows (exec .receive (args { sync syncCaps with txFill := 0xFF } 0x20002000 3 0))
        (fun t => t.result = 0 ∧ t.syncTag = .rxOnly ∧ t.txSrc = .fill ∧ t.txBuf = 0x40000008 ∧ t.txCnt = 3 ∧
          t.ier = 0b0111 ∧ t.out = [.thr 0xFF, .thr 0xFF, .thr 0xFF]) := by decide +kernel
/-- L2-T16: on the engine, RX is armed first. -/
theorem test_receive_engine :
    shows (exec .receive (args (sync engine) 0x20001000 4 0)) (fun t => t.result = 0 ∧ t.ier = 0b0100 ∧
      t.out = [.dmaProgram ⟨1, 0x40000004, 0x20001000, 4, false, true⟩, .dmaProgram ⟨0, 0x40000008, 0x40000000, 4, false, false⟩]) := by decide +kernel
/-- P5 step 1: STATE reads 0x327F. -/
theorem test_transfer :
    shows (exec .transfer (args (sync engine) 0x20000000 0x20001000 8))
        (fun t => t.result = 0 ∧ t.ier = 0b0100 ∧ t.stateView = 0x0000327F ∧
          t.out = [.dmaProgram ⟨1, 0x40000004, 0x20001000, 8, false, true⟩, .dmaProgram ⟨0, 0x20000000, 0x40000000, 8, true, false⟩]) := by decide +kernel
/-- L2-T13. -/
theorem test_transfer_async :
    shows (exec .transfer (args (sending 1 1) 0x20000000 0x20001000 2)) (fun t => t.result = 10) := by decide +kernel
/-- P2 step 2. -/
theorem test_tx_count : shows (exec .getTxCount (sending 20 16)) (fun t => t.result = 0 ∧ t.rval = 16) := by
  decide +kernel
/-- P3 step 4. -/
theorem test_rx_count :
    shows (exec .getRxCount (receiving 4 2 [])) (fun t => t.result = 0 ∧ t.rval = 2) := by decide +kernel
/-- L2-D6: rx_busy and all four sticky flags. -/
theorem test_status :
    shows
        (exec .getStatus
          { receiving 4 0 [] with rxOverflow := true, rxBreak := true, rxFraming := true, rxParity := true })
        (fun t => t.result = 0 ∧ t.rval = 0x7A) := by decide +kernel
/-- The example of R186: TX_CNT is kept. -/
theorem test_abort_send :
    shows (exec .abortSend (sending 20 16)) (fun t => t.result = 0 ∧ t.sendActive = false ∧ t.ier = 0 ∧
      t.txCnt = 16 ∧ t.out = [.fifoReset .tx]) := by decide +kernel
/-- L2-D19. -/
theorem test_abort_receive :
    shows (exec .abortReceive { async engine with rxBusy := true, rxNum := 4, ier := 0b0100 })
        (fun t => t.result = 0 ∧ t.rxBusy = false ∧ t.ier = 0 ∧
          t.out = [.dmaDisable 1, .fifoReset .rx]) := by decide +kernel
/-- P6 step 5. -/
theorem test_abort_transfer :
    shows (exec .abortTransfer transferring) (fun t => t.result = 0 ∧ t.sendActive = false ∧ t.rxBusy = false ∧
      t.syncTag = .none ∧ t.out = [.dmaDisable 0, .fifoReset .tx, .dmaDisable 1, .fifoReset .rx]) := by decide +kernel

/-! ## The dispatches (L2-D, P2 to P6) -/

/-- P2 step 4. -/
theorem test_thre_refill :
    shows (exec .irqThre (sending 20 16)) (fun t => t.txCnt = 20 ∧ t.sendActive = false ∧ t.ier = 0 ∧
      t.out = [.memRead 0x20000010, .thr 0x51, .memRead 0x20000011, .thr 0x52, .memRead 0x20000012, .thr 0x53, .memRead 0x20000013, .thr 0x54, .callback 0x1]) := by decide +kernel
/-- L2-T9, the first THRE: a burst of 16, no callback. -/
theorem test_thre_burst :
    shows (exec .irqThre (sending 33 16)) (fun t => t.txCnt = 32 ∧ t.sendActive = true ∧ t.out.length = 32 ∧
      t.out.getLast? = some (.thr 0)) := by decide +kernel
/-- P3 step 2: break instead of framing. -/
theorem test_rls_break :
    shows (exec .irqRls { receiving 4 0 [] with lsr := 0x1A })
        (fun t => t.rxOverflow = true ∧ t.rxBreak = true ∧ t.rxFraming = false ∧ t.rxParity = false ∧
          t.out = [.callback 0xA0]) := by decide +kernel
/-- L2-D7: an overrun while a synchronous slave sends. -/
theorem test_rls_underflow :
    shows (exec .irqRls { receiving 4 0 [] with lsr := 0x02, cfg := 0x01A, sendActive := true }) (fun t => t.out = [.callback 0x30]) := by decide +kernel
/-- P3 step 5: one character stays in the FIFO. -/
theorem test_rda :
    shows (exec .irqRda (receiving 4 2 [0x33, 0x34, 0x35])) (fun t => t.rxCnt = 4 ∧ t.rxBusy = false ∧ t.ier = 0 ∧
      t.fifo = [0x35] ∧ t.mem = [(0x20001002, 0x33), (0x20001003, 0x34)] ∧
      t.out = [.rxRead, .memWrite 0x20001002 0x33, .rxRead, .memWrite 0x20001003 0x34, .callback 0x2]) := by decide +kernel
/-- The silent side of a synchronous send discards its characters (R224). -/
theorem test_rda_discard :
    shows
        (exec .irqRda
          { receiving 2 0 [7, 8] with cfg := 0x019, rxDst := .discard, syncTag := .txOnly, sendActive := true })
        (fun t => t.rxCnt = 2 ∧ t.rxBusy = false ∧ t.syncTag = .txOnly ∧ t.mem = [] ∧
          t.out = [.rxRead, .rxRead]) := by decide +kernel
/-- P3 step 3: the count is not reached, so a timeout. -/
theorem test_cti_timeout :
    shows (exec .irqCti (receiving 4 0 [0x31, 0x32])) (fun t => t.rxCnt = 2 ∧ t.rxBusy = true ∧
      t.out = [.rxRead, .memWrite 0x20001000 0x31, .rxRead, .memWrite 0x20001001 0x32, .callback 0x40]) := by
  decide +kernel
/-- L2-D11: the count is reached, so no timeout. -/
theorem test_cti_complete :
    shows (exec .irqCti (receiving 2 0 [5, 6, 7])) (fun t => t.rxCnt = 2 ∧ t.fifo = [7] ∧
      t.out.getLast? = some (.callback 0x2)) := by decide +kernel
/-- L2-D12. -/
theorem test_ms :
    shows (exec .irqMs { async modem with ier := 0b1000, msr := 0x09 }) (fun t => t.out = [.callback 0x1400]) := by
  decide +kernel
/-- L2-D15: only CTS_CHANGED passes its capability. -/
theorem test_ms_gated :
    shows
        (exec .irqMs
          { async { plain with cap := { plain.cap with cts := true, dsr := true, eventCts := true } } with
            ier := 0b1000, msr := 0x0F })
        (fun t => t.out = [.callback 0x400]) := by decide +kernel
/-- The example of R220. -/
theorem test_none :
    shows (exec (.irqNone 0b001) (sending 20 16)) (fun t => t = sending 20 16) := by decide +kernel
/-- R227. -/
theorem test_reserved :
    shows (exec .irqReserved8 (sending 20 16)) (fun t => t = sending 20 16) ∧
    shows (exec .irqReservedA (sending 20 16)) (fun t => t = sending 20 16) ∧
    shows (exec .irqReservedE (sending 20 16)) (fun t => t = sending 20 16) := by decide +kernel
/-- P5 step 2: the first half of a transfer ends without an event. -/
theorem test_dma_tx :
    shows (exec .dmaTxOk transferring) (fun t => t.txCnt = 8 ∧ t.sendActive = false ∧ t.syncTag = .txAndRx ∧
      t.out = []) := by decide +kernel
/-- P5 step 4: the second half raises TRANSFER_COMPLETE. -/
theorem test_dma_rx :
    shows (exec .dmaRxOk { transferring with sendActive := false, txCnt := 8 })
        (fun t => t.rxCnt = 8 ∧ t.rxBusy = false ∧ t.syncTag = .none ∧ t.ier = 0 ∧
          t.out = [.callback 0x4]) := by decide +kernel
/-- P6 step 2, L2-D18: an error completion changes nothing. -/
theorem test_dma_error :
    shows (exec .dmaTxError transferring) (fun t => t = transferring) ∧
    shows (exec .dmaRxError transferring) (fun t => t = transferring) := by decide +kernel

/-! ## Witnesses: states and operands that meet the hypotheses of a statement, clause by clause -/

/-- A state with one request waiting. -/
def waiting (s : State) (r : Request) : State := { s with pending := [r] }

/-- `plain` with a read hole and a write hole in the memory. -/
def holed : Params :=
  { plain with
    memHoles := [⟨.read, 0x20000010, 0x20000010⟩, ⟨.write, 0x20001001, 0x20001001⟩] }

/-- `engine` with no request of length 9 admitted on the transmit channel. -/
def dmaHoled : Params :=
  { engine with
    dmaHoles := [⟨0, 0, 0xFFFFFFFF, 0, 0xFFFFFFFF, 9, 9, true, false⟩] }

/-- `engine` with no request of length 9 admitted on the receive channel. -/
def rxHoled : Params :=
  { engine with
    dmaHoles := [⟨1, 0, 0xFFFFFFFF, 0, 0xFFFFFFFF, 9, 9, false, true⟩] }

theorem test_inv_idle : (async plain).Inv := by
  refine ⟨⟨by decide +kernel, by decide +kernel, by decide +kernel, by decide +kernel, ⟨.async, by decide, by decide⟩,
    by decide +kernel, by decide +kernel, by decide +kernel⟩, ?_⟩
  constructor <;> decide +kernel

theorem test_inv_sending : (sending 20 16).Inv := by
  refine ⟨⟨by decide +kernel, by decide +kernel, by decide +kernel, by decide +kernel, ⟨.async, by decide, by decide⟩,
    by decide +kernel, by decide +kernel, by decide +kernel⟩, ?_⟩
  constructor <;> decide +kernel

theorem test_inv_receiving : (receiving 4 2 []).Inv := by
  refine ⟨⟨by decide +kernel, by decide +kernel, by decide +kernel, by decide +kernel, ⟨.async, by decide, by decide⟩,
    by decide +kernel, by decide +kernel, by decide +kernel⟩, ?_⟩
  constructor <;> decide +kernel

theorem test_inv_transferring : transferring.Inv := by
  refine ⟨⟨by decide +kernel, by decide +kernel, by decide +kernel, by decide +kernel,
    ⟨.syncMaster, by decide, by decide⟩, by decide +kernel, by decide +kernel, by decide +kernel⟩, ?_⟩
  constructor <;> decide +kernel

theorem test_inv_overlapping : overlapping.Inv := by
  refine ⟨⟨by decide +kernel, by decide +kernel, by decide +kernel, by decide +kernel,
    ⟨.syncMaster, by decide, by decide⟩, by decide +kernel, by decide +kernel, by decide +kernel⟩, ?_⟩
  constructor <;> decide +kernel

theorem test_inv_receivingSync : receivingSync.Inv := by
  refine ⟨⟨by decide +kernel, by decide +kernel, by decide +kernel, by decide +kernel,
    ⟨.syncMaster, by decide, by decide⟩, by decide +kernel, by decide +kernel, by decide +kernel⟩, ?_⟩
  constructor <;> decide +kernel

/-- Synchronous, configured, idle, with the FILL left over by a synchronous receive. -/
theorem test_inv_filled : ({ sync syncCaps with txSrc := .fill } : State).Inv ∧
    ({ sync syncCaps with txSrc := .fill } : State).FillOnlyInSync := by
  refine ⟨⟨⟨by decide +kernel, by decide +kernel, by decide +kernel, by decide +kernel,
    ⟨.syncMaster, by decide, by decide⟩, by decide +kernel, by decide +kernel, by decide +kernel⟩, ?_⟩, ?_⟩
  · constructor <;> decide +kernel
  · constructor <;> decide +kernel

/-- IllegalCommandWord: the bounds of each clause. -/
theorem test_witness_IllegalCommandWord :
    ([0x00000000, 0x06, 0x0F, 0x19, 0xFF, 0x110, 0x80000001] : List Word).all (fun w =>
      w.extractLsb' 8 24 ≠ 0 ∨ w.extractLsb' 0 8 = 0x00 ∨
        0x06 ≤ (w.extractLsb' 0 8).toNat ∧ (w.extractLsb' 0 8).toNat ≤ 0x0F ∨ 0x19 ≤ (w.extractLsb' 0 8).toNat) = true := by
  decide +kernel

/-- IllegalCommandWord, StepRunsInstruction, HostWrites, HostReads, MisalignedAccessRefused, ResetStep: a request waits. -/
theorem test_witness_waiting :
    (waiting (async plain) (.hostWrite 0x00 4 0x13 7)).pending = [.hostWrite 0x00 4 0x13 7] ∧
    decode (.command 0x13) = .ok .getTxCount ∧
    (waiting (async plain) (.irq 0b0010 1 2 [3])).pending = [.irq 0b0010 1 2 [3]] ∧ decode (.iir 0b0010) = .ok .irqThre ∧
    (waiting (async plain) (.dma 0b01)).pending = [.dma 0b01] ∧ decode (.completion 0b01) = .ok .dmaRxOk ∧
    (waiting (async plain) .reset).pending = [.reset] := by decide +kernel

/-- HostWrites, HostReads: the first and last offset of each clause. -/
theorem test_witness_offsets :
    ∀ k ∈ [0, 1, 2, 3, 4, 18, 19, 31],
      (waiting (async plain) (.hostWrite (BitVec.ofNat 7 (4 * k)) 4 9 7)).pending =
          [.hostWrite (BitVec.ofNat 7 (4 * k)) 4 9 7] ∧
        (waiting (async plain) (.hostRead (BitVec.ofNat 7 (4 * k)) 4)).pending =
          [.hostRead (BitVec.ofNat 7 (4 * k)) 4] ∧ k < 32 := by decide +kernel

/-- MisalignedAccessRefused: too narrow at a good offset, and a word at the offsets beside good ones. -/
theorem test_witness_MisalignedAccessRefused :
    refusal (step (waiting (async plain) (.hostWrite 0x00 3 1 7))) = some (.hostAccessNotWord 0x00 3) ∧
    refusal (step (waiting (async plain) (.hostWrite 0x03 4 1 7))) = some (.hostAccessNotWord 0x03 4) ∧
    refusal (step (waiting (async plain) (.hostRead 0x7D 4))) = some (.hostAccessNotWord 0x7D 4) ∧
    refusal (step (waiting (async plain) (.hostRead 0x10 8))) = some (.hostAccessNotWord 0x10 8) := by decide +kernel

/-- SolverBounds, SolverMeetsRules, AchievedRateFits: an OK, with B at its least. -/
theorem test_witness_solver : solve 3 16 1 = .ok 1 0 1 1 ∧ solve 3 0 1 = .noDivisor := by decide +kernel

/-- SendEffect: a refused SEND, and accepted ones in the interrupt path, in a synchronous mode and on the engine. -/
theorem test_witness_SendEffect :
    Expected.sendRefusal (args (async plain) 0 5 0) = some 1 ∧
    (Expected.sendRefusal (args (async plain) 0x20000000 2 0) = none ∧
      Expected.sendAdmitted (args (async plain) 0x20000000 2 0)) ∧
    (Expected.sendRefusal (args (sync syncCaps) 0x20000000 2 0) = none ∧
      Expected.sendAdmitted (args (sync syncCaps) 0x20000000 2 0)) ∧
    Expected.sendRefusal (args (sync engine) 0x20000000 2 0) = none ∧
      Expected.sendAdmitted (args (sync engine) 0x20000000 2 0) := by
  refine ⟨by decide +kernel, ⟨by decide +kernel, ?_, ?_⟩, ⟨by decide +kernel, ?_, ?_⟩, by decide +kernel, ?_, ?_⟩
  · intro h; exact absurd h (by decide +kernel)
  · intro _ _ _; rfl
  · intro _; trivial
  · intro _ _ _; rfl
  · intro _; rfl
  · rfl

/-- SendEffect, R72 and U2: an asynchronous SEND from the buffer being received into is accepted, draws a free value for each of
the two bytes not yet received, and leaves them on record; the byte below RX_CNT beside it is known. -/
theorem test_witness_SendEffect_receiving :
    shows (exec .send (args (receiving 4 2 []) 0x20001001 3 0)) (fun t => t.result = 0 ∧ t.draws = 2 ∧
      t.unknown = [⟨0x20001002, 0x20001004⟩] ∧ t.out.take 2 = [.memRead 0x20001001, .thr 0]) := by decide +kernel

/-- ReceiveEffect. -/
theorem test_witness_ReceiveEffect :
    Expected.receiveRefusal (args (receiving 4 2 []) 0x20001000 4 0) = some 5 ∧
    (Expected.receiveRefusal (args (async plain) 0x20001000 4 0) = none ∧
      Expected.receiveAdmitted (args (async plain) 0x20001000 4 0)) ∧
    Expected.receiveRefusal (args (sync engine) 0x20001000 4 0) = none ∧
      Expected.receiveAdmitted (args (sync engine) 0x20001000 4 0) := by
  refine ⟨by decide +kernel, ⟨by decide +kernel, trivial, ?_⟩, by decide +kernel, rfl, ?_⟩
  · intro h; exact absurd h (by decide +kernel)
  · intro _; rfl

/-- TransferEffect. -/
theorem test_witness_TransferEffect :
    Expected.transferRefusal (args (async plain) 1 2 3) = some 10 ∧
    (Expected.transferRefusal (args (sync syncCaps) 0x20000000 0x20001000 8) = none ∧
      Expected.transferAdmitted (args (sync syncCaps) 0x20000000 0x20001000 8)) ∧
    Expected.transferRefusal (args (sync engine) 0x20000000 0x20001000 8) = none ∧
      Expected.transferAdmitted (args (sync engine) 0x20000000 0x20001000 8) :=
  ⟨by decide +kernel, ⟨by decide +kernel, trivial, fun _ _ _ => rfl⟩, by decide +kernel, rfl, rfl⟩

/-- StartNotAdmitted: a byte the memory does not admit, and a request the engine does not. -/
theorem test_witness_StartNotAdmitted :
    fault (exec .send (args (async holed) 0x20000000 17 0)) = none ∧
    fault (exec .send (args (async holed) 0x20000001 16 0)) = some (.memNotAdmitted .read 0x20000010) ∧
    refusal (exec .send (args (async dmaHoled) 0x20000000 9 0)) =
      some (.dmaNotAdmitted ⟨0, 0x20000000, 0x40000000, 9, true, false⟩) := by decide +kernel

/-- StartNotAdmitted: each of its three clauses has a state. -/
theorem test_witness_StartNotAdmitted_clauses :
    (Expected.sendRefusal (args (async dmaHoled) 0x20000000 9 0) = none ∧
      ¬Expected.sendAdmitted (args (async dmaHoled) 0x20000000 9 0)) ∧
    (Expected.receiveRefusal (args (sync rxHoled) 0x20001000 9 0) = none ∧
      ¬Expected.receiveAdmitted (args (sync rxHoled) 0x20001000 9 0)) ∧
    Expected.transferRefusal (args (sync dmaHoled) 0x20000000 0x20001000 9) = none ∧
      ¬Expected.transferAdmitted (args (sync dmaHoled) 0x20000000 0x20001000 9) := by
  refine ⟨⟨by decide +kernel, ?_⟩, ⟨by decide +kernel, ?_⟩, by decide +kernel, ?_⟩
  · intro h
    exact absurd (show dmaHoled.dmaAdmits ⟨0, 0x20000000, 0x40000000, 9, true, false⟩ = true from h.2) (by decide +kernel)
  · intro h
    exact absurd (show rxHoled.dmaAdmits ⟨1, 0x40000004, 0x20001000, 9, false, true⟩ = true from h.1) (by decide +kernel)
  · intro h
    exact absurd (show dmaHoled.dmaAdmits ⟨0, 0x20000000, 0x40000000, 9, true, false⟩ = true from h.2) (by decide +kernel)

/-- ThreEffect: both branches (16 + 4 of 20, 16 + 16 of 33). -/
theorem test_witness_ThreEffect :
    (sending 20 16).ier.getLsbD 1 = true ∧ Expected.refill (sending 20 16) = 4 ∧
    Expected.refill (sending 33 16) = 16 ∧
    ∀ j < 16, (sending 33 16).params.memAdmits .read (Expected.refillAddr (sending 33 16) j) = true := by decide +kernel

/-- ThreEffect at FILL_ADDR: what was read there when the host wrote it stays a candidate beside the current TX_FILL (log 26). -/
theorem test_witness_ThreEffect_fill :
    shows
      (step (waiting { sending 20 0 with txBuf := 0x40000008, txFill := 0x11 } (.memWrite .host 0x40000008 0x99)))
      (fun t => t.staleAt 0x40000008 = [0x11] ∧ t.readByte 0x40000008 = 0x11) := by decide +kernel

/-- RlsEffect, MsEffect: their enables. -/
theorem test_witness_RlsEffect :
    (receiving 4 2 []).ier.getLsbD 2 = true ∧
      ({ async modem with ier := 0b1000 } : State).ier.getLsbD 3 = true := by decide +kernel

/-- RdaEffect, CtiEffect: a drain that ends and one that does not. -/
theorem test_witness_RdaEffect :
    (receiving 4 2 [1, 2, 3]).ier.getLsbD 0 = true ∧ Expected.drainEnds (receiving 4 2 [1, 2, 3]) = true ∧
    Expected.drainEnds (receiving 4 2 [1]) = false ∧ Expected.drainAdmitted (receiving 4 2 [1, 2, 3]) ∧
    Expected.drainAdmitted (receiving 4 2 [1]) :=
  ⟨by decide +kernel, by decide +kernel, by decide +kernel, fun _ _ _ => rfl, fun _ _ _ => rfl⟩

/-- RdaEffect, U2: of three bytes on record the one that is drained is known again. -/
theorem test_witness_RdaEffect_unknown :
    shows (exec .irqRda { receiving 4 1 [9] with unknown := [⟨0x20001001, 0x20001004⟩] })
      (fun t => t.unknown = [⟨0x20001002, 0x20001004⟩]) := by decide +kernel

/-- IgnoredInterrupts: every enable off. -/
theorem test_witness_IgnoredInterrupts :
    (async plain).ier.getLsbD 0 = false ∧ (async plain).ier.getLsbD 1 = false ∧ (async plain).ier.getLsbD 2 = false ∧
      (async plain).ier.getLsbD 3 = false := by decide +kernel

/-- DmaOkEffect, IgnoredCompletions. -/
theorem test_witness_DmaOkEffect :
    transferring.params.txDma = some 0 ∧ transferring.sendActive = true ∧ transferring.params.rxDma = some 1 ∧
    transferring.rxBusy = true ∧ (async engine).sendActive = false ∧ (async engine).rxBusy = false ∧
    (sending 20 16).params.txDma = none ∧ (receiving 4 2 []).params.rxDma = none := by decide +kernel

/-- DispatchNotAdmitted. -/
theorem test_witness_DispatchNotAdmitted :
    Expected.refill { sending 20 16 with params := holed } = 4 ∧
    holed.memAdmits .read (Expected.refillAddr { sending 20 16 with params := holed } 0) = false ∧
    Expected.drainCount { receiving 4 1 [7] with params := holed } = 1 ∧
    holed.memAdmits .write (Expected.drainAddr { receiving 4 1 [7] with params := holed } 0) = false ∧
    fault (exec .irqThre { sending 20 16 with params := holed }) = some (.memNotAdmitted .read 0x20000010) ∧
    fault (exec .irqRda { receiving 4 0 [7, 8] with params := holed }) = some (.memNotAdmitted .write 0x20001001) := by
  decide +kernel

/-- FailureChangesResultOnly, FailureCodes, LifecycleTransitions, CommandOutputs: a command that fails, one that succeeds. -/
theorem test_witness_commands :
    isCommand .send = true ∧ isCommand .powerControl = true ∧
    shows (exec .send (args (async plain) 0 5 0)) (fun t => t.result = 1) ∧
    shows (exec .powerControl (args (sending 4 4) 0 0 0)) (fun t => t.result = 0 ∧ t.lc = .initialized) := by
  decide +kernel

/-- OneCallbackLast, DispatchFrame: a dispatch with a callback. -/
theorem test_witness_dispatches :
    isCommand .irqThre = false ∧ isCommand .dmaRxOk = false ∧ isCommand (.irqNone 0b111) = false ∧
    shows (exec .irqThre (sending 20 20)) (fun t => t.out = [.callback 0x1]) := by decide +kernel

/-- DivisorWriters: a CONFIGURE that changes the triple and BAUD, and an UNINITIALIZE that changes BAUD. -/
theorem test_witness_DivisorWriters :
    shows (exec .configure (args { async plain with pclk := 12000000 } 4800 0x018 0))
      (fun t => t.div = 125 ∧ t.mulval = 4 ∧ t.divaddval = 1 ∧ t.baud = 4800) ∧
    shows (exec .uninitialize (async plain)) (fun t => t.baud = 0 ∧ t.div = 71) := by decide +kernel

/-- OnlyDrainsWriteMemory, ParametersFixed, MemoryCanonical, InvKept: a step with a next state, and one that writes memory. -/
theorem test_witness_steps :
    Memory.wf (sending 20 16).mem = true ∧
    shows (step (waiting (sending 20 16) (.irq 0b0010 0 0 []))) (fun t => t.txCnt = 20) ∧
    shows (step (waiting (sending 20 16) (.memWrite .host 0x20000001 0))) (fun t => t.mem.length = 5) := by decide +kernel

/-- OnlyDrainsWriteMemory: a byte on record stays there at a THRE, and is known after the engine's OK (R70). -/
theorem test_witness_OnlyDrainsWriteMemory :
    Expected.onRecord [⟨0x20001001, 0x20001004⟩] 0x20001003 ∧ Expected.receives transferring 0x20001003 ∧
    shows (exec .irqThre { sending 20 16 with unknown := [⟨0x20001001, 0x20001004⟩] })
      (fun t => t.unknown = [⟨0x20001001, 0x20001004⟩]) ∧
    shows (exec .dmaRxOk { transferring with unknown := [⟨0x20001001, 0x20001010⟩] })
      (fun t => t.unknown = [⟨0x20001008, 0x20001010⟩]) :=
  ⟨⟨_, .head _, by decide, by decide⟩, ⟨rfl, rfl, by decide +kernel⟩, by decide +kernel, by decide +kernel⟩

/-- InvKept (with test_inv_filled): a request that is no CONFIGURE. -/
theorem test_witness_InvKept :
    (∀ w p rest, (waiting (sync syncCaps) (.irq 0b0001 0 0 [])).pending = .hostWrite 0x00 4 w p :: rest →
      decode (.command w) ≠ .ok .configure) ∧
    decode (.command 0x10) ≠ .ok .configure := by
  refine ⟨?_, by decide⟩
  intro w p rest h
  cases h

/-- FillOnlyInSyncAsWritten (expected to fail): the CONFIGURE to an asynchronous mode that leaves TX_SRC. -/
theorem test_witness_FillOnlyInSyncAsWritten :
    shows
      (exec .configure (args { sync syncCaps with txSrc := .fill, pclk := 12000000 } 9600 0x018 0))
      (fun t => t.result = 0 ∧ t.txSrc = .fill ∧ t.sync = false) := by decide +kernel

/-- AbortThenReceive. -/
theorem test_witness_AbortThenReceive :
    transferring.lc = .configured ∧ Expected.rxAdmitted transferring .buffer 0x20001000 4 ∧
      Expected.txAdmitted transferring .fill transferring.params.fillAddr 4 :=
  ⟨by decide +kernel, rfl, rfl⟩

/-- SendWhileActive (with test_inv_sending). -/
theorem test_witness_SendWhileActive :
    (sending 20 16).sendActive = true ∧ (0x20000000 : Word) ≠ 0 ∧ (20 : Word) ≠ 0 := by decide +kernel

/-- UnpoweredDispatch: a state below POWERED that has the invariant. -/
theorem test_witness_UnpoweredDispatch :
    ({ async plain with lc := .initialized } : State).Inv ∧ isCommand .irqThre = false := by
  refine ⟨⟨⟨by decide +kernel, by decide +kernel, by decide +kernel, by decide +kernel, ⟨.async, by decide, by decide⟩,
    by decide +kernel, by decide +kernel, by decide +kernel⟩, ?_⟩, rfl⟩
  constructor <;> decide +kernel

/-- ReceiveCompletesOnce (with test_inv_receiving, test_inv_receivingSync, test_inv_overlapping): the missing characters split over
CTI and RDA (P3) with a THRE between them, in each kind of receive. -/
theorem test_witness_ReceiveCompletesOnce :
    ∀ s ∈ [receiving 4 2 [], receivingSync, overlapping],
      s.ier.getLsbD 0 = true ∧ s.cbReg = true ∧
      s.rxNum.toNat - s.rxCnt.toNat ≤ Expected.brought [(.irqCti, [0x33]), (.irqThre, []), (.irqRda, [0x34, 0x35])] := by
  decide +kernel

/-- ReceiveCompletesOnce: every access admitted; and the clause about TX, whose bounds a THRE meets. -/
theorem test_witness_ReceiveCompletesOnce_tx :
    (∀ dir a, overlapping.params.memAdmits dir a = true) ∧ overlapping.ier.getLsbD 1 = true ∧
    overlapping.txNum.toNat - overlapping.txCnt.toNat ≤ 16 * Expected.thres [(.irqThre, []), (.irqRda, [1, 2])] ∧
    (∀ p ∈ ([(.irqThre, []), (.irqRda, [1, 2])] : List (Instr × List Byte)),
      p.1 = .irqRda ∨ p.1 = .irqCti ∨ p.1 = .irqThre) ∧
    shows (Expected.dispatches [(.irqThre, []), (.irqRda, [1, 2])] overlapping)
      (fun t => t.rxBusy = false ∧ t.sendActive = false ∧ t.out.getLast? = some (.callback 0x4)) :=
  ⟨fun _ _ => rfl, by decide +kernel, by decide +kernel, by decide +kernel, by decide +kernel⟩

/-- RacedByte, a write by the host: both values are then candidates. -/
theorem test_witness_RacedByte :
    Expected.sends (sending 20 0) 0x20000001 ∧ ¬Expected.onRecord (sending 20 0).unknown 0x20000001 ∧
    ¬Expected.receives (sending 20 0) 0x20000001 ∧ Memory.wf (sending 20 0).mem = true ∧
    shows (step (waiting (sending 20 0) (.memWrite .host 0x20000001 0x99)))
      (fun t => t.readByte 0x20000001 = 0x99 ∧ t.staleAt 0x20000001 = [0x42] ∧ t.params.memAdmits .read 0x20000001) := by
  refine ⟨⟨rfl, rfl, by decide +kernel⟩, ?_, ?_, by decide +kernel, by decide +kernel⟩
  · rintro ⟨x, hx, -⟩
    cases hx
  · rintro ⟨h, -⟩
    cases h

/-- RacedByte, a received character stored over a byte still to be sent (U12). -/
theorem test_witness_RacedByte_overlap :
    Expected.sends overlapping 0x20001002 ∧ overlapping.ier.getLsbD 0 = true ∧ overlapping.rxDst = .buffer ∧
    Expected.drainCount { overlapping with fifo := [0x77] } = 1 ∧
    Expected.drainAddr { overlapping with fifo := [0x77] } 0 = 0x20001002 ∧
    (0x20001002 : Addr) ≠ overlapping.params.fillAddr ∧ (0x20001002 : Addr) ≠ overlapping.params.dumpAddr ∧
    shows (exec .irqRda { overlapping with fifo := [0x77] })
      (fun t => t.staleAt 0x20001002 = [0x55] ∧ t.readByte 0x20001002 = 0x77) :=
  ⟨⟨rfl, rfl, by decide +kernel⟩, by decide +kernel, rfl, by decide +kernel, by decide +kernel, by decide +kernel,
    by decide +kernel, by decide +kernel⟩

/-- SharedMemory, a read: of a byte not yet received, of one below RX_CNT, and of FILL_ADDR. -/
theorem test_witness_SharedMemory_read :
    Expected.freeToHost (receiving 4 2 []) 0x20001002 ∧ ¬Expected.freeToHost (receiving 4 2 []) 0x20001001 ∧
    shows (step (waiting (receiving 4 2 []) (.memRead .host 0x20001002)))
      (fun t => t.draws = 1 ∧ t.unknown = [⟨0x20001002, 0x20001004⟩] ∧ t.pending = []) ∧
    shows (step (waiting (receiving 4 2 []) (.memRead .engine 0x20001001)))
      (fun t => t.draws = 0 ∧ t.unknown = [⟨0x20001002, 0x20001004⟩] ∧ t.rdata = 0) ∧
    shows (step (waiting { sending 20 0 with txFill := 0x5A } (.memRead .host 0x40000008))) (fun t => t.rdata = 0x5A) := by
  refine ⟨⟨by decide +kernel, .inr ⟨⟨rfl, rfl, by decide +kernel⟩, fun _ => by decide +kernel⟩⟩, ?_, by decide +kernel,
    by decide +kernel, by decide +kernel⟩
  rintro ⟨-, ⟨x, hx, -⟩ | ⟨-, h⟩⟩
  · cases hx
  · exact absurd (h rfl) (by decide +kernel)

/-- SharedMemory, a write: foreign (the host's to an engine's receive), its own (the engine's), and to DUMP_ADDR. -/
theorem test_witness_SharedMemory_write :
    Expected.foreign transferring .host 0x20001000 ∧ ¬Expected.foreign transferring .engine 0x20001000 ∧
    shows (step (waiting transferring (.memWrite .host 0x20001003 1)))
      (fun t => t.draws = 1 ∧ t.unknown = [⟨0x20001000, 0x20001008⟩]) ∧
    shows (step (waiting transferring (.memWrite .engine 0x20001003 1)))
      (fun t => t.mem = [(0x20001003, 1)] ∧ t.unknown = []) ∧
    shows (step (waiting transferring (.memWrite .host 0x4000000C 1))) (fun t => t.mem = []) := by
  refine ⟨⟨⟨rfl, rfl, by decide +kernel⟩, .inl rfl⟩, ?_, by decide +kernel, by decide +kernel, by decide +kernel⟩
  rintro ⟨-, h | h⟩
  · cases h
  · cases h

/-- UnreadInputBits: all the bits that are not read differ. -/
theorem test_witness_UnreadInputBits :
    (0xE1 ^^^ 0x1E : Byte).extractLsb' 1 4 = (0x1E : Byte).extractLsb' 1 4 ∧
      (0xF0 ^^^ 0x09 : Byte).extractLsb' 0 4 = (0x09 : Byte).extractLsb' 0 4 := by decide

end Sys2Proof.Tests
end

section
/-! Command failure (spec/00_scope.md R13): a command that answers another code than OK changes RESULT and nothing else. The idea
is in the shape of the commands: every check comes before every change, so a command ends by `fail` in the state it began in,
or by `succeed`. -/

namespace Sys2Proof.Machine

/-- How a command begun in `s` may end (R13). -/
inductive CommandEnd (s : State) : Result → Prop
  /-- a check failed, and the command has changed nothing before -/
  | fail (code : ResultCode) : CommandEnd s (fail code s)
  /-- all checks passed, and so did the change -/
  | succeed (u : State) : CommandEnd s (succeed u)
  /-- all checks passed, and the command succeeds if the platform admits its accesses and requests (R66, R75) -/
  | succeedAfter (o : Result) : CommandEnd s (andThen o Machine.succeed)

/-- A check chooses between two ends. -/
theorem CommandEnd.ite {s : State} {c : Prop} [Decidable c] {o o' : Result} (h : CommandEnd s o) (h' : CommandEnd s o') :
    CommandEnd s (if c then o else o') := by
  split
  · exact h
  · exact h'

/-- The next state of a command: only RESULT replaced, or RESULT = OK. -/
theorem CommandEnd.next_cases {s t : State} {o : Result} (h : CommandEnd s o) (ho : o = .next t) :
    (∃ code : ResultCode, t = { s with result := code.bits }) ∨ t.result = 0 := by
  cases h with
  | fail code => cases ho; exact .inl ⟨code, rfl⟩
  | succeed u => cases ho; exact .inr rfl
  | succeedAfter o =>
    obtain ⟨u, -, hu⟩ := andThen_eq_next.1 ho
    cases hu
    exact .inr rfl

section
variable (s : State)

theorem execInitialize_end : CommandEnd s (execInitialize s) := by
  refine .ite (.fail _) ?_
  cases s.lc with
  | powered => exact .fail _
  | configured => exact .fail _
  | initialized => exact .succeed _
  | unpowered => exact .succeed _

theorem powerOff_end : CommandEnd s (powerOff s) := .ite (.succeed _) (.succeed _)

theorem powerFull_end : CommandEnd s (powerFull s) := .ite (.fail _) (.ite (.fail _) (.succeed _))

theorem execPowerControl_end : CommandEnd s (execPowerControl s) := by
  unfold execPowerControl
  split
  · exact .fail _
  · exact .fail _
  · exact powerOff_end s
  · exact powerFull_end s

theorem commitBaud_end (r : SolveResult) : CommandEnd s (commitBaud r s) := by
  cases r with
  | noDivisor => exact .fail _
  | outOfTolerance => exact .fail _
  | ok m d dv a => exact .succeed _

theorem configureMode_end (mode : Mode) : CommandEnd s (configureMode mode s) :=
  .ite (.fail _) <| .ite (.fail _) <| .ite (.fail _) <| .ite (.fail _) <| .ite (.fail _) <| commitBaud_end s _

theorem execConfigure_end : CommandEnd s (execConfigure s) := by
  refine .ite (.fail _) ?_
  cases modeOfBits (cfgMode (argCfg s.arg1)) with
  | none => exact .fail _
  | some mode => exact configureMode_end s mode

theorem execSetTxFill_end : CommandEnd s (execSetTxFill s) := .ite (.fail _) (.ite (.fail _) (.succeed _))

theorem execSend_end : CommandEnd s (execSend s) :=
  .ite (.fail _) <| .ite (.fail _) <| .ite (.fail _) <| .ite (.succeedAfter _) (.succeedAfter _)

theorem execReceive_end : CommandEnd s (execReceive s) :=
  .ite (.fail _) <| .ite (.fail _) <| .ite (.fail _) <| .ite (.succeedAfter _) (.succeedAfter _)

theorem execTransfer_end : CommandEnd s (execTransfer s) :=
  .ite (.fail _) <| .ite (.fail _) <| .ite (.fail _) <| .ite (.fail _) (.succeedAfter _)

end

/-- Every command ends as R13 says; those without an `_end` lemma of their own have no check and always succeed. A dispatch is
no command. -/
theorem exec_command_end {i : Instr} (s : State) (hi : isCommand i = true) : CommandEnd s (exec i s) := by
  cases i with
  | initialise => exact execInitialize_end s
  | powerControl => exact execPowerControl_end s
  | configure => exact execConfigure_end s
  | setTxFill => exact execSetTxFill_end s
  | send => exact execSend_end s
  | receive => exact execReceive_end s
  | transfer => exact execTransfer_end s
  | uninitialize | getTxCount | getRxCount | getStatus | abortSend | abortReceive | abortTransfer => exact .succeed _
  | _ => cases hi

/-- Settles O39: a command ends by `fail` in the state it began in, or with RESULT = OK. -/
theorem failureChangesResultOnly : Obligations.FailureChangesResultOnly := by
  unfold Obligations.FailureChangesResultOnly
  intro i s t hi ht hfail
  obtain ⟨code, rfl⟩ | hok := (exec_command_end s hi).next_cases ht
  · rfl
  · exact absurd hok hfail

end Sys2Proof.Machine
end

section
/-! What an instruction can do to the registers that the invariants of spec/10_state.md R43 and R44 speak of, said once: `Change`
has one constructor per kind of change, and `exec_change` finds the one that an instruction makes. -/

namespace Sys2Proof.Machine

/-- `s` with every field erased that no invariant reads: two states with the same bare state satisfy the same invariants. -/
def State.bare (s : State) : State :=
  { s with
    cbReg := false, txFill := 0, txBuf := 0, rxBuf := 0
    rxOverflow := false, rxBreak := false, rxFraming := false, rxParity := false
    arg0 := 0, arg1 := 0, arg2 := 0, rval := 0
    mem := [], pclk := 0, lsr := 0, msr := 0, fifo := [], out := [], pending := [], rdata := 0
    stale := [], unknown := [], draws := 0 }

@[simp] theorem deliver_bare (mask : EventMask) (s : State) : (deliver mask s).bare = s.bare := by
  rw [deliver_eq]; rfl

@[simp] theorem writeByte_bare (s : State) (a : Addr) (v : Byte) : (s.writeByte a v).bare = s.bare := by
  obtain ⟨m, old, u, d, h⟩ := writeByte_eq s a v
  rw [h]; rfl

@[simp] theorem touchRx_bare (s : State) (a : Addr) : (s.touchRx a).bare = s.bare := by
  rw [touchRx_eq]; rfl

/-- Everything draining one character can do to the registers: nothing (43_dispatcher.md R224). -/
theorem drainChar_next {c : Byte} {s t : State} (h : drainChar c s = .next t) :
    ∃ f acts m old u d,
      t = { s with fifo := f, out := s.out ++ acts, mem := m, stale := old, unknown := u, draws := d } := by
  unfold drainChar at h
  split at h
  · obtain ⟨-, rfl⟩ := storeByte_next h
    obtain ⟨m, old, u, d, hw⟩ := writeByte_eq (s.rxRead.emit (.memWrite (s.rxBuf + s.rxCnt) c)) (s.rxBuf + s.rxCnt) c
    exact ⟨s.fifo.tail, [.rxRead, .memWrite (s.rxBuf + s.rxCnt) c], m, old, u, d, by
      rw [hw]; simp [State.rxRead, State.emit]⟩
  · cases h
    exact ⟨s.fifo.tail, [.rxRead], s.mem, s.stale, s.unknown, s.draws, rfl⟩

/-- Everything a drain can do to the registers: it counts the characters in RX_CNT (R224). -/
theorem drainChars_next : ∀ {cs : List Byte} {s t : State}, drainChars cs s = .next t →
    ∃ f acts m old u d, t = { s with
      rxCnt := s.rxCnt + BitVec.ofNat 32 cs.length
      fifo := f, out := s.out ++ acts, mem := m, stale := old, unknown := u, draws := d } := by
  intro cs
  induction cs with
  | nil => intro s t h; cases h; exact ⟨s.fifo, [], s.mem, s.stale, s.unknown, s.draws, by simp⟩
  | cons c cs ih =>
    intro s t h
    obtain ⟨v, hv, h⟩ := andThen_eq_next.1 h
    obtain ⟨f, acts, m, old, u, d, rfl⟩ := drainChar_next hv
    obtain ⟨f', acts', m', old', u', d', rfl⟩ := ih h
    exact ⟨f', acts ++ acts', m', old', u', d', by simp only [word_shift, List.append_assoc, List.length_cons]⟩

/-- COMPLETE (R228) decides by registers that a bare state has. -/
theorem complete_bare (side : Side) {s t : State} (h : s.bare = t.bare) :
    (complete side s).1.bare = (complete side t).1.bare := by
  have key : ∀ s : State, (complete side s).1.bare = (complete side s.bare).1 := by
    intro s
    unfold complete
    cases hsync : s.sync with
    | false => rw [show s.bare.sync = false from hsync]; cases side <;> rfl
    | true =>
      rw [show s.bare.sync = true from hsync, show s.bare.syncTag = s.syncTag from rfl,
        show s.bare.anyBusy = s.anyBusy from rfl]
      cases s.syncTag <;> cases side <;> cases s.anyBusy <;> rfl
  rw [key, key, h]

/-- Writing the value an enable has changes nothing. -/
theorem ierPut_self : ∀ (ier : BitVec 4) (b : Fin 4), ierPut ier b.val (ier.getLsbD b.val) = ier := by decide

/-- What arming does to the registers on the TX side (42_transfer.md R173): in the interrupt path the first characters are written
and THRE is enabled. -/
def State.txArmed (s : State) : State :=
  match s.params.txDma with
  | some _ => s
  | none => { s with txCnt := BitVec.ofNat 32 (min 16 s.txNum.toNat) }.putThree true

/-- What arming does to the registers on the RX side (R174). -/
def State.rxArmed (s : State) : State :=
  match s.params.rxDma with
  | some _ => s.putRlse true
  | none => (s.putRlse true).putRxe true

theorem txArmed_eq (s : State) : ∃ cnt ier, s.txArmed = { s with txCnt := cnt, ier := ier } := by
  unfold State.txArmed
  split
  · exact ⟨s.txCnt, s.ier, rfl⟩
  · exact ⟨_, _, rfl⟩

theorem rxArmed_eq (s : State) : ∃ ier, s.rxArmed = { s with ier := ier } := by
  unfold State.rxArmed
  split <;> exact ⟨_, rfl⟩

theorem armedBoth_eq (s : State) : ∃ cnt ier, s.rxArmed.txArmed = { s with txCnt := cnt, ier := ier } := by
  obtain ⟨ier, he⟩ := rxArmed_eq s
  obtain ⟨cnt, ier', he'⟩ := txArmed_eq s.rxArmed
  exact ⟨cnt, ier', by rw [he', he]⟩

theorem armTx_bare {s t : State} (h : armTx s = .next t) : t.bare = s.txArmed.bare := by
  obtain ⟨acts, d, u, c, e, rfl, -, ch, ⟨hch, -, rfl, rfl⟩ | ⟨hch, -, -, rfl, rfl⟩⟩ := armTx_next h
  · rw [State.txArmed, hch]; rfl
  · rw [State.txArmed, hch]; rfl

theorem armRx_bare {s t : State} (h : armRx s = .next t) : t.bare = s.rxArmed.bare := by
  obtain ⟨ch, hch, rfl⟩ | ⟨hch, rfl⟩ := armRx_next h
  · rw [State.rxArmed, hch]; rfl
  · rw [State.rxArmed, hch]

theorem txArmed_bare {s t : State} (h : s.bare = t.bare) : s.txArmed.bare = t.txArmed.bare := by
  have key : ∀ s : State, s.txArmed.bare = s.bare.txArmed := by
    intro s
    unfold State.txArmed
    rw [show s.bare.params = s.params from rfl]
    cases s.params.txDma <;> rfl
  rw [key, key, h]

theorem rxArmed_bare {s t : State} (h : s.bare = t.bare) : s.rxArmed.bare = t.rxArmed.bare := by
  have key : ∀ s : State, s.rxArmed.bare = s.bare.rxArmed := by
    intro s
    unfold State.rxArmed
    rw [show s.bare.params = s.params from rfl]
    cases s.params.rxDma <;> rfl
  rw [key, key, h]

theorem armBoth_bare {s t v : State} (hv : s.bare = v.bare) (h : armBoth s = .next t) :
    t.bare = v.rxArmed.txArmed.bare := by
  obtain ⟨u, hu, h⟩ := andThen_eq_next.1 h
  rw [armTx_bare h, txArmed_bare ((armRx_bare hu).trans (rxArmed_bare hv))]

/-- The two sides of a synchronous start, set up (R171, R172, R178), but for the fields that no invariant reads. -/
def State.setupBoth (s : State) (src : TxSource) (dst : RxDest) (len : Word) (tag : SyncTag) : State :=
  { s with
    sendActive := true, txSrc := src, txNum := len, txCnt := 0
    rxBusy := true, rxDst := dst, rxNum := len, rxCnt := 0
    syncTag := tag }

/-- The TX side once all its characters are written, with `three` for IER.THREE (43_dispatcher.md R222, R231). -/
def State.txEnded (s : State) (three : Bool) : State :=
  { s with ier := ierPut s.ier 1 three, txCnt := s.txNum, sendActive := false }

/-- The RX side once all its characters are read, with `rxe` for IER.RXE (R224, R232). -/
def State.rxEnded (s : State) (rxe : Bool) : State :=
  { s with ier := ierPut (ierPut s.ier 0 rxe) 2 false, rxCnt := s.rxNum, rxBusy := false }

/-- A configuration CONFIGURE may commit (R28, R144, 40_baud_solver.md R126, R130): `c` for CFG, the divisor triple and the
achieved rate. -/
structure Committable (p : Params) (c : BitVec 10) (m d dv a : Nat) : Prop where
  mode : ∃ mode, modeOfBits (cfgMode c) = some mode ∧ modeCap p.cap mode = true
  par : cfgPar c ≠ 3
  mulval : 1 ≤ m ∧ m ≤ 15
  divaddval : d < m
  div : 1 ≤ dv ∧ dv ≤ 65536
  baud : a < 2 ^ 28

/-- The kinds of change: `Change s i u` where `u` is, but for what no invariant reads, a state that `i` may lead to from `s`. -/
inductive Change (s : State) : Instr → State → Prop
  /-- a dispatch that is ignored, or concerns none of these registers -/
  | same (i : Instr) : Change s i s
  /-- a command that fails, or writes none of these registers but RESULT (R13) -/
  | answered (i : Instr) (code : ResultCode) : Change s i { s with result := code.bits }
  | cleared (i : Instr) (lc : Lifecycle) (hi : i = .initialise ∨ i = .uninitialize) :
    Change s i { runtimeClear s with lc := lc, result := 0 }
  | poweredDown (i : Instr) : Change s i { powerDown s with lc := .initialized, result := 0 }
  | poweredUp (i : Instr) (idle : s.anyBusy = false) :
    Change s i { s with ier := if s.params.hasModem then 0b1000 else 0b0000, lc := .powered, result := 0 }
  | configured (c : BitVec 10) (m d dv a : Nat) (idle : s.anyBusy = false) (good : Committable s.params c m d dv a) :
    Change s .configure
      { s with
        cfg := c, div := BitVec.ofNat 17 dv, mulval := BitVec.ofNat 4 m, divaddval := BitVec.ofNat 4 d
        baud := BitVec.ofNat 32 a, lc := .configured, result := 0 }
  /-- an asynchronous SEND -/
  | startedTx (i : Instr) (buf : Addr) (len : Word) (hlen : len ≠ 0) (hlc : s.lc = .configured) (hsync : s.sync = false) :
    Change s i { (setupTx .buffer buf len s).txArmed with result := 0 }
  /-- an asynchronous RECEIVE -/
  | startedRx (i : Instr) (buf : Addr) (len : Word) (hlen : len ≠ 0) (hlc : s.lc = .configured) (hsync : s.sync = false) :
    Change s i { (setupRx .buffer buf len s).rxArmed with result := 0 }
  /-- a start in a synchronous mode -/
  | startedBoth (i : Instr) (src : TxSource) (dst : RxDest) (len : Word) (tag : SyncTag)
      (hlen : len ≠ 0) (hlc : s.lc = .configured) (hsync : s.sync = true) :
    Change s i { (s.setupBoth src dst len tag).rxArmed.txArmed with result := 0 }
  | stoppedTx (i : Instr) (hsync : s.sync = false) : Change s i { abortTx s with syncTag := .none, result := 0 }
  | stoppedRx (i : Instr) (hsync : s.sync = false) : Change s i { abortRx s with syncTag := .none, result := 0 }
  | stoppedBoth (i : Instr) : Change s i { abortRx (abortTx s) with syncTag := .none, result := 0 }
  /-- a THRE dispatch that does not end the TX side -/
  | refilled (i : Instr) (k : Nat) (hk : k ≤ s.txNum.toNat - s.txCnt.toNat) :
    Change s i { s with txCnt := s.txCnt + BitVec.ofNat 32 k }
  /-- the end of the TX side, with THRE disabled or, in the engine path, never enabled -/
  | endedTx (i : Instr) (three : Bool) (hthree : three = true → s.three = true ∧ s.params.txDma ≠ none) :
    Change s i (complete .tx (s.txEnded three)).1
  /-- a drain that does not end the RX side -/
  | drained (i : Instr) (k : Nat) (hk : k ≤ s.rxNum.toNat - s.rxCnt.toNat)
      (hne : s.rxCnt + BitVec.ofNat 32 k ≠ s.rxNum) :
    Change s i { s with rxCnt := s.rxCnt + BitVec.ofNat 32 k }
  /-- the end of the RX side, with RXE disabled or, in the engine path, never enabled -/
  | endedRx (i : Instr) (rxe : Bool) (hrxe : rxe = true → s.rxe = true ∧ s.params.rxDma ≠ none) :
    Change s i (complete .rx (s.rxEnded rxe)).1


/-- Every next state of the part `o` of a step is one of the kinds of change `i` may make in `s`. -/
def Changes (i : Instr) (s : State) (o : Result) : Prop := ∀ t, o = .next t → ∃ u, Change s i u ∧ t.bare = u.bare

section
variable {i : Instr} {s : State}

theorem Changes.ite {c : Prop} [Decidable c] {o o' : Result} (h : c → Changes i s o) (h' : ¬c → Changes i s o') :
    Changes i s (if c then o else o') := by
  split
  · exact h ‹_›
  · exact h' ‹_›

theorem Changes.fail (code : ResultCode) : Changes i s (fail code s) := by
  rintro t ⟨⟩
  exact ⟨_, .answered i code, rfl⟩

theorem Changes.succeed {v u : State} (hu : Change s i u) (h : ({ v with result := 0 } : State).bare = u.bare) :
    Changes i s (succeed v) := by
  rintro t ⟨⟩
  exact ⟨u, hu, h⟩

/-- A start: what `o` arms is what is left when the start succeeds. -/
theorem Changes.succeedAfter {o : Result} {v : State} (hu : Change s i { v with result := 0 })
    (h : ∀ t, o = .next t → t.bare = v.bare) : Changes i s (andThen o Machine.succeed) := by
  intro t ht
  obtain ⟨w, hw, ⟨⟩⟩ := andThen_eq_next.1 ht
  refine ⟨_, hu, ?_⟩
  show ({ w.bare with result := 0 } : State) = { v.bare with result := 0 }
  rw [h w hw]

/-- A dispatch whose case leaves the state `u`, but for what no invariant reads. -/
theorem Changes.dispatch {o : Answer (State × EventMask)}
    (h : ∀ r, o = .next r → ∃ u, Change s i u ∧ r.1.bare = u.bare) : Changes i s (dispatch o) := by
  intro t ht
  obtain ⟨u, m, ho, rfl⟩ := dispatch_eq_next.1 ht
  obtain ⟨v, hv, hb⟩ := h _ ho
  exact ⟨v, hv, by rw [deliver_bare]; exact hb⟩

theorem Changes.ignored : Changes i s (Machine.dispatch (ignore s)) := by
  rw [dispatch_ignore]
  rintro t ⟨⟩
  exact ⟨s, .same i, rfl⟩

/-- A dispatch that its enable or its channel gates. -/
theorem Changes.gated {c : Prop} [Decidable c] {o : Answer (State × EventMask)}
    (h : c → ∀ r, o = .next r → ∃ u, Change s i u ∧ r.1.bare = u.bare) :
    Changes i s (Machine.dispatch (if c then o else ignore s)) := by
  split
  · exact .dispatch (h ‹_›)
  · exact .ignored

end

section
variable {s : State}

theorem execInitialize_changes : Changes .initialise s (execInitialize s) := by
  refine .ite (fun _ => .fail _) fun _ => ?_
  cases s.lc with
  | powered => exact .fail _
  | configured => exact .fail _
  | initialized => exact .succeed (.answered _ .ok) rfl
  | unpowered => exact .succeed (.cleared _ .initialized (.inl rfl)) rfl

theorem execUninitialize_changes : Changes .uninitialize s (execUninitialize s) := by
  refine .succeed (.cleared _ .unpowered (.inr rfl)) ?_
  rw [powerDown_eq]
  split <;> rfl

theorem execPowerControl_changes : Changes .powerControl s (execPowerControl s) := by
  unfold execPowerControl
  cases argPowerState s.arg0 with
  | none => exact .fail _
  | some p =>
    cases p with
    | low => exact .fail _
    | off => exact .ite (fun _ => .succeed (.poweredDown _) rfl) fun _ => .succeed (.answered _ .ok) rfl
    | full =>
      exact .ite (fun _ => .fail _) fun _ => .ite (fun _ => .fail _) fun hb =>
        .succeed (.poweredUp _ (Bool.eq_false_of_not_eq_true hb)) rfl

/-- What the search keeps is one of the candidates it is given, with a valid divisor (40_baud_solver.md R123, R124). -/
theorem solverSearch_some {f b : Nat} {c : Candidate} : ∀ {ps : List (Nat × Nat)} {best : Option Candidate},
    solverSearch f b ps best = some c →
    best = some c ∨ (c.m, c.d) ∈ ps ∧ c.dv = solverDivisor f b c.m c.d ∧ solverValid f b c.m c.d = true := by
  intro ps
  induction ps with
  | nil => intro best h; exact .inl h
  | cons p ps ih =>
    intro best h
    obtain ⟨m, d⟩ := p
    simp only [solverSearch, Bool.and_eq_true] at h
    split at h
    · rename_i hv
      split at h
      · cases h
        exact .inr ⟨by simp, rfl, hv.1⟩
      · obtain ⟨⟨⟩⟩ | ⟨hmem, h⟩ := ih h
        · exact .inr ⟨by simp, rfl, hv.1⟩
        · exact .inr ⟨List.mem_cons_of_mem _ hmem, h⟩
    · obtain h | ⟨hmem, h⟩ := ih h
      · exact .inl h
      · exact .inr ⟨List.mem_cons_of_mem _ hmem, h⟩

/-- The candidates are in R121's ranges. -/
theorem solverPairs_range {m d : Nat} (h : (m, d) ∈ solverPairs) : 1 ≤ m ∧ m ≤ 15 ∧ d < m := by
  simp only [solverPairs, List.mem_flatMap, List.mem_map, List.mem_range, Prod.mk.injEq] at h
  obtain ⟨k, hk, e, he, rfl, rfl⟩ := h
  omega

/-- An answer of SOLVE fits the registers it goes to (R123, R126, R31, R32). -/
theorem solve_ok_range {tol f b m d dv a : Nat} (hf : f < 2 ^ 32) (h : solve tol f b = .ok m d dv a) :
    (1 ≤ m ∧ m ≤ 15) ∧ d < m ∧ (1 ≤ dv ∧ dv ≤ 65536) ∧ a < 2 ^ 28 := by
  unfold solve at h
  generalize hsearch : solverSearch f b solverPairs none = best at h
  cases best with
  | none => cases h
  | some c =>
    simp only [judge] at h
    split at h
    · cases h
    · cases h
      obtain ⟨⟨⟩⟩ | ⟨hmem, hdv, hvalid⟩ := solverSearch_some hsearch
      obtain ⟨hm, hm', hd⟩ := solverPairs_range hmem
      simp only [solverValid, ← hdv, Bool.and_eq_true, decide_eq_true_eq] at hvalid
      refine ⟨⟨hm, hm'⟩, hd, hvalid, Nat.div_lt_of_lt_mul ?_⟩
      calc f * c.m < 2 ^ 32 * c.m := Nat.mul_lt_mul_of_pos_right hf hm
        _ ≤ 2 ^ 32 * (c.dv * (c.m + c.d)) :=
          Nat.mul_le_mul_left _ (Nat.le_trans (Nat.le_add_right _ _) (Nat.le_mul_of_pos_left _ hvalid.1))
        _ = 16 * c.dv * (c.m + c.d) * 2 ^ 28 := by ring

theorem execConfigure_changes : Changes .configure s (execConfigure s) := by
  refine .ite (fun _ => .fail _) fun _ => ?_
  cases hmode : modeOfBits (cfgMode (argCfg s.arg1)) with
  | none => exact .fail _
  | some mode =>
    refine .ite (fun _ => .fail _) fun hcap => .ite (fun _ => .fail _) fun hidle => .ite (fun _ => .fail _) fun hline =>
      .ite (fun _ => .fail _) fun _ => .ite (fun _ => .fail _) fun _ => ?_
    unfold configureBaud
    generalize hsolve : solve s.params.tolPct s.pclk.toNat s.arg0.toNat = r
    cases r with
    | noDivisor => exact .fail _
    | outOfTolerance => exact .fail _
    | ok m d dv a =>
      obtain ⟨hm, hd, hdv, ha⟩ := solve_ok_range s.pclk.isLt hsolve
      simp only [argLineWellFormed, Bool.not_eq_true', Bool.not_eq_false, Bool.and_eq_true, bne_iff_ne] at hcap hidle hline
      exact .succeed (.configured (argCfg s.arg1) m d dv a (by simpa using hidle)
        ⟨⟨mode, hmode, by simpa using hcap⟩, by simpa using hline.2, hm, hd, hdv, ha⟩) rfl

theorem execSetTxFill_changes : Changes .setTxFill s (execSetTxFill s) :=
  .ite (fun _ => .fail _) fun _ => .ite (fun _ => .fail _) fun _ => .succeed (.answered _ .ok) rfl

theorem execSend_changes : Changes .send s (execSend s) := by
  refine .ite (fun _ => .fail _) fun harg => .ite (fun _ => .fail _) fun hlc => .ite (fun _ => .fail _) fun _ => ?_
  have hlen : s.arg1 ≠ 0 := fun h => harg (.inr h)
  refine .ite (fun hsync => ?_) fun hsync => ?_
  · exact .succeedAfter
      (.startedBoth _ .buffer .discard s.arg1 .txOnly hlen (not_not.1 hlc) hsync) fun _ => armBoth_bare rfl
  · exact .succeedAfter (.startedTx _ s.arg0 s.arg1 hlen (not_not.1 hlc) (Bool.eq_false_of_not_eq_true hsync)) fun _ => armTx_bare

theorem execReceive_changes : Changes .receive s (execReceive s) := by
  refine .ite (fun _ => .fail _) fun harg => .ite (fun _ => .fail _) fun hlc => .ite (fun _ => .fail _) fun _ => ?_
  have hlen : s.arg1 ≠ 0 := fun h => harg (.inr h)
  refine .ite (fun hsync => ?_) fun hsync => ?_
  · exact .succeedAfter
      (.startedBoth _ .fill .buffer s.arg1 .rxOnly hlen (not_not.1 hlc) hsync) fun _ => armBoth_bare rfl
  · exact .succeedAfter (.startedRx _ s.arg0 s.arg1 hlen (not_not.1 hlc) (Bool.eq_false_of_not_eq_true hsync)) fun _ => armRx_bare

theorem execTransfer_changes : Changes .transfer s (execTransfer s) := by
  refine .ite (fun _ => .fail _) fun harg => .ite (fun _ => .fail _) fun hlc => .ite (fun _ => .fail _) fun hsync =>
    .ite (fun _ => .fail _) fun _ => ?_
  have hlen : s.arg2 ≠ 0 := fun h => harg (.inr (.inr h))
  exact .succeedAfter
    (.startedBoth _ .buffer .buffer s.arg2 .txAndRx hlen (not_not.1 hlc) (by simpa using hsync))
    fun _ => armBoth_bare rfl

theorem execAbortSend_changes : Changes .abortSend s (execAbortSend s) := by
  unfold execAbortSend
  split
  · exact .succeed (.stoppedBoth _) rfl
  · exact .succeed (.stoppedTx _ (Bool.eq_false_of_not_eq_true ‹_›)) rfl

theorem execAbortReceive_changes : Changes .abortReceive s (execAbortReceive s) := by
  unfold execAbortReceive
  split
  · exact .succeed (.stoppedBoth _) rfl
  · exact .succeed (.stoppedRx _ (Bool.eq_false_of_not_eq_true ‹_›)) rfl

theorem execIrqThre_changes : Changes .irqThre s (execIrqThre s) := by
  refine .gated fun _ r h => ?_
  obtain ⟨t, ht, h⟩ := andThen_eq_next.1 h
  obtain ⟨acts, d, u, rfl, -⟩ := pushChars_next ht
  dsimp only at h
  split at h
  · rename_i hend
    cases h
    refine ⟨_, .endedTx _ false (by simp), complete_bare _ ?_⟩
    rw [hend]
    rfl
  · cases h
    exact ⟨_, .refilled _ (min Config.burst (s.txNum.toNat - s.txCnt.toNat)) (Nat.min_le_right _ _), rfl⟩

/-- A drain ends the RX side or leaves it busy (R224). -/
theorem drain_changes {i : Instr} {r : State × EventMask} (h : drain s = .next r) :
    ∃ u, Change s i u ∧ r.1.bare = u.bare := by
  obtain ⟨t, ht, h⟩ := andThen_eq_next.1 h
  obtain ⟨f, acts, m, old, u, d, rfl⟩ := drainChars_next ht
  have hk : (s.fifo.take (s.rxNum.toNat - s.rxCnt.toNat)).length ≤ s.rxNum.toNat - s.rxCnt.toNat :=
    List.length_take_le _ _
  dsimp only at h
  split at h
  · rename_i hend
    cases h
    refine ⟨_, .endedRx _ false (by simp), complete_bare _ ?_⟩
    rw [hend]
    rfl
  · cases h
    exact ⟨_, .drained _ _ hk ‹_›, rfl⟩

theorem execIrqRda_changes : Changes .irqRda s (execIrqRda s) :=
  .gated fun _ _ => drain_changes

theorem execIrqCti_changes : Changes .irqCti s (execIrqCti s) := by
  refine .gated fun _ r h => ?_
  obtain ⟨q, hq, ⟨⟩⟩ := andThen_eq_next.1 h
  exact drain_changes (r := q) hq

theorem execIrqRls_changes : Changes .irqRls s (execIrqRls s) := by
  refine .gated fun _ r h => ?_
  cases h
  exact ⟨s, .same _, rfl⟩

theorem execIrqMs_changes : Changes .irqMs s (execIrqMs s) := by
  refine .gated fun _ r h => ?_
  cases h
  exact ⟨s, .same _, rfl⟩

theorem execDmaTxOk_changes : Changes .dmaTxOk s (execDmaTxOk s) := by
  refine .gated fun hb r h => ?_
  cases h
  have hch : s.params.txDma ≠ none := by simp_all [State.engineBusy, Option.isSome_iff_ne_none]
  refine ⟨_, .endedTx _ s.three fun h => ⟨h, hch⟩, complete_bare _ ?_⟩
  rw [State.txEnded, show ierPut s.ier 1 s.three = s.ier from ierPut_self s.ier 1]

theorem execDmaRxOk_changes : Changes .dmaRxOk s (execDmaRxOk s) := by
  refine .gated fun hb r h => ?_
  cases h
  have hch : s.params.rxDma ≠ none := by simp_all [State.engineBusy, Option.isSome_iff_ne_none]
  refine ⟨_, .endedRx _ s.rxe fun h => ⟨h, hch⟩, complete_bare _ ?_⟩
  rw [State.rxEnded, show ierPut s.ier 0 s.rxe = s.ier from ierPut_self s.ier 0, settleRx_eq]
  rfl

end

/-- Every instruction makes one of the kinds of change. -/
theorem exec_change {i : Instr} {s t : State} (h : exec i s = .next t) : ∃ u, Change s i u ∧ t.bare = u.bare := by
  revert t
  show Changes i s (exec i s)
  cases i with
  | initialise => exact execInitialize_changes
  | uninitialize => exact execUninitialize_changes
  | powerControl => exact execPowerControl_changes
  | configure => exact execConfigure_changes
  | setTxFill => exact execSetTxFill_changes
  | send => exact execSend_changes
  | receive => exact execReceive_changes
  | transfer => exact execTransfer_changes
  | getTxCount | getRxCount | getStatus => exact .succeed (.answered _ .ok) rfl
  | abortSend => exact execAbortSend_changes
  | abortReceive => exact execAbortReceive_changes
  | abortTransfer => exact .succeed (.stoppedBoth _) rfl
  | irqThre => exact execIrqThre_changes
  | irqRls => exact execIrqRls_changes
  | irqRda => exact execIrqRda_changes
  | irqCti => exact execIrqCti_changes
  | irqMs => exact execIrqMs_changes
  | dmaTxOk => exact execDmaTxOk_changes
  | dmaRxOk => exact execDmaRxOk_changes
  | irqNone | irqReserved8 | irqReservedA | irqReservedE | dmaTxError | dmaRxError => exact .ignored

end Sys2Proof.Machine
end

section
/-! The invariant, side by side. Each clause of `State.Coupled` is about one side, the tag, or the modem bit, so that a change of
one side has to be looked at for that side and the tag alone. -/

namespace Sys2Proof.Machine

/-- What R43 and R44 say of the TX side (I-e, I-f, I-i, I-j, I-k). -/
structure State.TxOk (s : State) : Prop where
  count : s.txCnt.toNat ≤ s.txNum.toNat
  enable : s.three = true → s.sendActive = true ∧ s.params.txDma = none
  busy : s.sendActive = true → s.lc = .configured ∧ 1 ≤ s.txNum.toNat ∧ (s.txSrc = .fill → s.sync = true)

/-- What they say of the RX side (I-e, I-g, I-h, I-i, I-j, I-k). -/
structure State.RxOk (s : State) : Prop where
  count : s.rxCnt.toNat ≤ s.rxNum.toNat
  enable : s.rxe = true → s.rxBusy = true ∧ s.params.rxDma = none ∧ s.rxCnt.toNat < s.rxNum.toNat
  status : s.rlse = true → s.rxBusy = true
  busy : s.rxBusy = true → s.lc = .configured ∧ 1 ≤ s.rxNum.toNat ∧ (s.rxDst = .discard → s.sync = true)

/-- What they say of SYNC_TAG (I-c, I-j): a tag belongs to a synchronous mode and to a busy side. -/
structure State.TagOk (s : State) : Prop where
  sync : s.syncTag ≠ .none → s.sync = true
  tx : s.syncTag = .txOnly → s.sendActive = true
  rx : s.syncTag = .rxOnly → s.rxBusy = true
  both : s.syncTag = .txAndRx → s.sendActive = true ∨ s.rxBusy = true

/-- I-l. -/
def State.ModemOk (s : State) : Prop := s.mse = true → s.params.hasModem = true ∧ s.lc.isPowered = true

theorem coupled_iff {s : State} : s.Coupled ↔ s.TxOk ∧ s.RxOk ∧ s.TagOk ∧ s.ModemOk := by
  constructor
  · intro h
    refine ⟨⟨h.i_e_tx, h.i_f, fun hb => ⟨h.i_i (.inl hb), h.i_k_tx hb, h.i_j_tx hb⟩⟩,
      ⟨h.i_e_rx, h.i_g, h.i_h, fun hb => ⟨h.i_i (.inr hb), h.i_k_rx hb, h.i_j_rx hb⟩⟩,
      ⟨h.i_j_tag, h.tagTx, h.tagRx, fun ht => h.i_c (by simp [ht])⟩, h.i_l⟩
  · rintro ⟨htx, hrx, htag, hmodem⟩
    refine ⟨fun ht => ?_, htx.count, hrx.count, htx.enable, hrx.enable, hrx.status, ?_, htag.sync,
      fun hb => (htx.busy hb).2.2, fun hb => (hrx.busy hb).2.2, fun hb => (htx.busy hb).2.1, fun hb => (hrx.busy hb).2.1,
      hmodem, htag.tx, htag.rx⟩
    · cases h : s.syncTag with
      | none => exact absurd h ht
      | txOnly => exact .inl (htag.tx h)
      | rxOnly => exact .inr (htag.rx h)
      | txAndRx => exact htag.both h
    · rintro (hb | hb)
      · exact (htx.busy hb).1
      · exact (hrx.busy hb).1

section
variable {s u : State}

/-- The fields that `TxOk` reads. -/
def State.txView (s : State) : Word × Word × Bool × Bool × TxSource × Params × Lifecycle × BitVec 10 :=
  (s.txCnt, s.txNum, s.three, s.sendActive, s.txSrc, s.params, s.lc, s.cfg)

/-- The fields that `RxOk` reads. -/
def State.rxView (s : State) : Word × Word × Bool × Bool × Bool × RxDest × Params × Lifecycle × BitVec 10 :=
  (s.rxCnt, s.rxNum, s.rxe, s.rlse, s.rxBusy, s.rxDst, s.params, s.lc, s.cfg)

/-- The fields that `ModemOk` reads. -/
def State.modemView (s : State) : Bool × Params × Lifecycle := (s.mse, s.params, s.lc)

theorem State.TxOk.of_view (h : s.TxOk) (hv : u.txView = s.txView) : u.TxOk := by
  simp only [State.txView, Prod.mk.injEq] at hv
  obtain ⟨hcnt, hnum, hthree, hact, hsrc, hpar, hlc, hcfg⟩ := hv
  refine ⟨?_, ?_, ?_⟩
  · rw [hcnt, hnum]; exact h.count
  · rw [hthree, hact, hpar]; exact h.enable
  · rw [hact, hlc, hnum, hsrc, State.sync_eq, hcfg]; exact h.busy

theorem State.RxOk.of_view (h : s.RxOk) (hv : u.rxView = s.rxView) : u.RxOk := by
  simp only [State.rxView, Prod.mk.injEq] at hv
  obtain ⟨hcnt, hnum, hrxe, hrlse, hbusy, hdst, hpar, hlc, hcfg⟩ := hv
  refine ⟨?_, ?_, ?_, ?_⟩
  · rw [hcnt, hnum]; exact h.count
  · rw [hrxe, hbusy, hpar, hcnt, hnum]; exact h.enable
  · rw [hrlse, hbusy]; exact h.status
  · rw [hbusy, hlc, hnum, hdst, State.sync_eq, hcfg]; exact h.busy

theorem State.ModemOk.of_view (h : s.ModemOk) (hv : u.modemView = s.modemView) : u.ModemOk := by
  simp only [State.modemView, Prod.mk.injEq] at hv
  obtain ⟨hmse, hpar, hlc⟩ := hv
  unfold State.ModemOk
  rw [hmse, hpar, hlc]
  exact h

@[simp] theorem rxArmed_txView (s : State) : s.rxArmed.txView = s.txView := by
  unfold State.rxArmed
  split <;> simp [State.txView]

@[simp] theorem rxArmed_modemView (s : State) : s.rxArmed.modemView = s.modemView := by
  unfold State.rxArmed
  split <;> simp [State.modemView]

@[simp] theorem txArmed_rxView (s : State) : s.txArmed.rxView = s.rxView := by
  unfold State.txArmed
  split
  · rfl
  · simp only [State.rxView, State.putThree_rxe, State.putThree_rlse]; rfl

@[simp] theorem txArmed_modemView (s : State) : s.txArmed.modemView = s.modemView := by
  unfold State.txArmed
  split
  · rfl
  · simp only [State.modemView, State.putThree_mse]; rfl

@[simp] theorem rxEnded_txView (s : State) (rxe : Bool) : (s.rxEnded rxe).txView = s.txView := by
  have hthree : (s.rxEnded rxe).three = s.three := ((s.putRxe rxe).putRlse_three false).trans (s.putRxe_three rxe)
  rw [State.txView, hthree]; rfl

@[simp] theorem rxEnded_modemView (s : State) (rxe : Bool) : (s.rxEnded rxe).modemView = s.modemView := by
  have hmse : (s.rxEnded rxe).mse = s.mse := ((s.putRxe rxe).putRlse_mse false).trans (s.putRxe_mse rxe)
  rw [State.modemView, hmse]; rfl

@[simp] theorem txEnded_rxView (s : State) (three : Bool) : (s.txEnded three).rxView = s.rxView := by
  have hrxe : (s.txEnded three).rxe = s.rxe := s.putThree_rxe three
  have hrlse : (s.txEnded three).rlse = s.rlse := s.putThree_rlse three
  rw [State.rxView, hrxe, hrlse]; rfl

@[simp] theorem txEnded_modemView (s : State) (three : Bool) : (s.txEnded three).modemView = s.modemView := by
  have hmse : (s.txEnded three).mse = s.mse := s.putThree_mse three
  rw [State.modemView, hmse]; rfl

@[simp] theorem abortTx_three (s : State) : (abortTx s).three = false := by
  rw [abortTx_eq]; exact s.putThree_three false
@[simp] theorem abortTx_rxe (s : State) : (abortTx s).rxe = s.rxe := by
  rw [abortTx_eq]; exact s.putThree_rxe false
@[simp] theorem abortTx_rlse (s : State) : (abortTx s).rlse = s.rlse := by
  rw [abortTx_eq]; exact s.putThree_rlse false
@[simp] theorem abortTx_mse (s : State) : (abortTx s).mse = s.mse := by
  rw [abortTx_eq]; exact s.putThree_mse false
@[simp] theorem abortRx_three (s : State) : (abortRx s).three = s.three := by
  rw [abortRx_eq]; exact ((s.putRxe false).putRlse_three false).trans (s.putRxe_three false)
@[simp] theorem abortRx_rxe (s : State) : (abortRx s).rxe = false := by
  rw [abortRx_eq]; exact ((s.putRxe false).putRlse_rxe false).trans (s.putRxe_rxe false)
@[simp] theorem abortRx_rlse (s : State) : (abortRx s).rlse = false := by
  rw [abortRx_eq]; exact (s.putRxe false).putRlse_rlse false
@[simp] theorem abortRx_mse (s : State) : (abortRx s).mse = s.mse := by
  rw [abortRx_eq]; exact ((s.putRxe false).putRlse_mse false).trans (s.putRxe_mse false)

@[simp] theorem abortTx_rxView (s : State) : (abortTx s).rxView = s.rxView := by
  simp only [State.rxView, abortTx_rxe, abortTx_rlse]
  rw [abortTx_eq]

@[simp] theorem abortTx_modemView (s : State) : (abortTx s).modemView = s.modemView := by
  simp only [State.modemView, abortTx_mse]
  rw [abortTx_eq]

@[simp] theorem abortRx_txView (s : State) : (abortRx s).txView = s.txView := by
  simp only [State.txView, abortRx_three]
  rw [abortRx_eq]

@[simp] theorem abortRx_modemView (s : State) : (abortRx s).modemView = s.modemView := by
  simp only [State.modemView, abortRx_mse]
  rw [abortRx_eq]

@[simp] theorem complete_txView (side : Side) (s : State) : (complete side s).1.txView = s.txView := by
  obtain ⟨tag, h⟩ := complete_fst side s
  rw [h]; rfl

@[simp] theorem complete_rxView (side : Side) (s : State) : (complete side s).1.rxView = s.rxView := by
  obtain ⟨tag, h⟩ := complete_fst side s
  rw [h]; rfl

@[simp] theorem complete_modemView (side : Side) (s : State) : (complete side s).1.modemView = s.modemView := by
  obtain ⟨tag, h⟩ := complete_fst side s
  rw [h]; rfl

/-- An idle TX side needs only its count in range and THRE disabled. -/
theorem State.TxOk.of_idle (hcount : s.txCnt.toNat ≤ s.txNum.toNat) (hthree : s.three = false)
    (hidle : s.sendActive = false) : s.TxOk :=
  ⟨hcount, by simp [hthree], by simp [hidle]⟩

/-- An idle RX side needs only its count in range and RXE and RLSE disabled. -/
theorem State.RxOk.of_idle (hcount : s.rxCnt.toNat ≤ s.rxNum.toNat) (hrxe : s.rxe = false) (hrlse : s.rlse = false)
    (hidle : s.rxBusy = false) : s.RxOk :=
  ⟨hcount, by simp [hrxe], by simp [hrlse], by simp [hidle]⟩

theorem State.TagOk.of_none (h : s.syncTag = .none) : s.TagOk := by
  constructor <;> simp [h]

theorem State.ModemOk.of_disabled (h : s.mse = false) : s.ModemOk := by simp [State.ModemOk, h]

/-- In an asynchronous mode there is no tag (I-j). -/
theorem State.TagOk.none_of_async (h : s.TagOk) (hsync : s.sync = false) : s.syncTag = .none := by
  by_contra ht
  simp [h.sync ht] at hsync

/-- With both sides idle there is no tag (I-c). -/
theorem State.TagOk.none_of_idle (h : s.TagOk) (htx : s.sendActive = false) (hrx : s.rxBusy = false) :
    s.syncTag = .none := by
  cases ht : s.syncTag with
  | none => rfl
  | txOnly => simp [h.tx ht] at htx
  | rxOnly => simp [h.rx ht] at hrx
  | txAndRx => simpa [htx, hrx] using h.both ht

theorem State.TxOk.three_of_idle (h : s.TxOk) (hidle : s.sendActive = false) : s.three = false := by
  by_contra ht
  simp [(h.enable (Bool.eq_true_of_not_eq_false ht)).1] at hidle

theorem State.RxOk.rxe_of_idle (h : s.RxOk) (hidle : s.rxBusy = false) : s.rxe = false := by
  by_contra ht
  simp [(h.enable (Bool.eq_true_of_not_eq_false ht)).1] at hidle

theorem State.RxOk.rlse_of_idle (h : s.RxOk) (hidle : s.rxBusy = false) : s.rlse = false := by
  by_contra ht
  simp [h.status (Bool.eq_true_of_not_eq_false ht)] at hidle

/-- A TX side just set up is good once armed: the count starts at 0, or at the characters of the first burst (R171, R173). -/
theorem txArmed_txOk (hcnt : s.txCnt = 0) (hlen : s.txNum ≠ 0) (hact : s.sendActive = true) (hlc : s.lc = .configured)
    (hsrc : s.txSrc = .fill → s.sync = true) (hthree : s.three = true → s.params.txDma = none) : s.txArmed.TxOk := by
  have hnum : 1 ≤ s.txNum.toNat := Nat.one_le_iff_ne_zero.2 fun h => hlen (BitVec.eq_of_toNat_eq h)
  unfold State.txArmed
  cases hch : s.params.txDma with
  | some ch => exact ⟨by simp [hcnt], fun h => by simp [hthree h] at hch, fun _ => ⟨hlc, hnum, hsrc⟩⟩
  | none =>
    refine ⟨?_, fun _ => ⟨hact, hch⟩, fun _ => ⟨hlc, hnum, hsrc⟩⟩
    show (BitVec.ofNat 32 (min 16 s.txNum.toNat)).toNat ≤ s.txNum.toNat
    rw [BitVec.toNat_ofNat]
    exact Nat.le_trans (Nat.mod_le _ _) (Nat.min_le_right _ _)

/-- A RX side just set up is good once armed (R172, R174). -/
theorem rxArmed_rxOk (hcnt : s.rxCnt = 0) (hlen : s.rxNum ≠ 0) (hbusy : s.rxBusy = true) (hlc : s.lc = .configured)
    (hdst : s.rxDst = .discard → s.sync = true) (hrxe : s.rxe = true → s.params.rxDma = none) : s.rxArmed.RxOk := by
  have hnum : 1 ≤ s.rxNum.toNat := Nat.one_le_iff_ne_zero.2 fun h => hlen (BitVec.eq_of_toNat_eq h)
  have hlt : s.rxCnt.toNat < s.rxNum.toNat := by rw [hcnt]; exact hnum
  unfold State.rxArmed
  cases hch : s.params.rxDma with
  | some ch =>
    refine ⟨Nat.le_of_lt hlt, fun h => ?_, fun _ => hbusy, fun _ => ⟨hlc, hnum, hdst⟩⟩
    rw [State.putRlse_rxe] at h
    simp [hrxe h] at hch
  | none => exact ⟨Nat.le_of_lt hlt, fun _ => ⟨hbusy, hch, hlt⟩, fun _ => hbusy, fun _ => ⟨hlc, hnum, hdst⟩⟩

/-- COMPLETE leaves a good tag (R228): a tag of the other side alone stays with that side, and TX_AND_RX with the side that is
still busy. -/
theorem complete_tagOk {side : Side} (hsync : s.syncTag ≠ .none → s.sync = true)
    (htx : side = .rx → s.syncTag = .txOnly → s.sendActive = true)
    (hrx : side = .tx → s.syncTag = .rxOnly → s.rxBusy = true) : (complete side s).1.TagOk := by
  cases hs : s.sync with
  | false =>
    have ht : s.syncTag = .none := by
      by_contra ht
      simp [hsync ht] at hs
    refine .of_none ?_
    unfold complete
    rw [hs]
    cases side <;> exact ht
  | true =>
    unfold complete
    rw [hs]
    cases ht : s.syncTag with
    | none => cases side <;> exact .of_none ht
    | txOnly =>
      cases side with
      | tx => exact .of_none rfl
      | rx => exact ⟨fun _ => hs, fun _ => htx rfl ht, by simp [ht], by simp [ht]⟩
    | rxOnly =>
      cases side with
      | tx => exact ⟨fun _ => hs, by simp [ht], fun _ => hrx rfl ht, by simp [ht]⟩
      | rx => exact .of_none rfl
    | txAndRx =>
      cases hb : s.anyBusy with
      | false => cases side <;> exact .of_none rfl
      | true =>
        have hboth : s.sendActive = true ∨ s.rxBusy = true := by simpa [State.anyBusy] using hb
        cases side <;> exact ⟨fun _ => hs, by simp [ht], by simp [ht], fun _ => hboth⟩

end
section
variable {s u : State} {i : Instr}

theorem not_busy {s : State} (h : s.anyBusy = false) : s.sendActive = false ∧ s.rxBusy = false := by
  simpa [State.anyBusy] using h

/-- POWER_CONTROL(FULL) enables the modem interrupt at most (41_lifecycle.md R143). -/
theorem poweredUp_ier (c : Bool) : ∀ b : Fin 3, (if c then 0b1000#4 else 0b0000#4).getLsbD b.val = false := by
  cases c <;> decide

/-- A count that a dispatch advances by no more than what is missing stays in range (R222, R224). -/
theorem advanced_count {cnt num : Word} {k : Nat} (h : cnt.toNat ≤ num.toNat) (hk : k ≤ num.toNat - cnt.toNat) :
    (cnt + BitVec.ofNat 32 k).toNat ≤ num.toNat := by
  have hnum := num.isLt
  rw [BitVec.toNat_add, BitVec.toNat_ofNat]
  omega

theorem State.TxOk.abortTx (h : s.TxOk) : (Machine.abortTx s).TxOk :=
  .of_idle (by rw [abortTx_eq]; exact h.count) (abortTx_three s) rfl

theorem State.RxOk.abortRx (h : s.RxOk) : (Machine.abortRx s).RxOk :=
  .of_idle (by rw [abortRx_eq]; exact h.count) (abortRx_rxe s) (abortRx_rlse s) rfl

theorem Change.txOk (hc : Change s i u) (h : s.TxOk) : u.TxOk := by
  cases hc with
  | same => exact h
  | answered => exact h.of_view rfl
  | cleared => exact .of_idle (Nat.le_refl 0) BitVec.getLsbD_zero rfl
  | poweredDown => rw [powerDown_eq]; exact .of_idle h.count BitVec.getLsbD_zero rfl
  | poweredUp _ idle => exact .of_idle h.count (poweredUp_ier _ 1) (not_busy idle).1
  | configured c m d dv a idle => exact .of_idle h.count (h.three_of_idle (not_busy idle).1) (not_busy idle).1
  | startedTx _ buf len hlen hlc hsync =>
    exact (txArmed_txOk (s := setupTx .buffer buf len s) rfl hlen rfl hlc nofun fun ht => (h.enable ht).2).of_view rfl
  | startedRx => exact h.of_view (rxArmed_txView _)
  | startedBoth _ src dst len tag hlen hlc hsync =>
    have hv := rxArmed_txView (s.setupBoth src dst len tag)
    simp only [State.txView, Prod.mk.injEq] at hv
    obtain ⟨hcnt, hnum, hthree, hact, hsrc, hpar, hlc', hcfg⟩ := hv
    refine (txArmed_txOk hcnt (hnum ▸ hlen) hact (hlc'.trans hlc) (fun _ => ?_) fun ht => ?_).of_view rfl
    · rw [State.sync_eq, hcfg]; exact hsync
    · rw [hpar]; exact (h.enable (hthree.symm.trans ht)).2
  | stoppedTx => exact h.abortTx.of_view rfl
  | stoppedRx => exact h.of_view (abortRx_txView s)
  | stoppedBoth => exact h.abortTx.of_view (abortRx_txView _)
  | refilled _ k hk => exact ⟨advanced_count h.count hk, h.enable, h.busy⟩
  | endedTx _ three hthree =>
    refine (State.TxOk.of_idle (Nat.le_refl _) ?_ rfl).of_view (complete_txView .tx (s.txEnded three))
    refine (s.putThree_three three).trans (Bool.eq_false_of_not_eq_true fun ht => ?_)
    exact (hthree ht).2 (h.enable (hthree ht).1).2
  | drained => exact h.of_view rfl
  | endedRx => exact h.of_view ((complete_txView _ _).trans (rxEnded_txView _ _))

theorem Change.rxOk (hc : Change s i u) (h : s.RxOk) : u.RxOk := by
  cases hc with
  | same => exact h
  | answered => exact h.of_view rfl
  | cleared => exact .of_idle (Nat.le_refl 0) BitVec.getLsbD_zero BitVec.getLsbD_zero rfl
  | poweredDown => rw [powerDown_eq]; exact .of_idle h.count BitVec.getLsbD_zero BitVec.getLsbD_zero rfl
  | poweredUp _ idle => exact .of_idle h.count (poweredUp_ier _ 0) (poweredUp_ier _ 2) (not_busy idle).2
  | configured c m d dv a idle =>
    exact .of_idle h.count (h.rxe_of_idle (not_busy idle).2) (h.rlse_of_idle (not_busy idle).2) (not_busy idle).2
  | startedTx => exact h.of_view (txArmed_rxView _)
  | startedRx _ buf len hlen hlc hsync =>
    exact (rxArmed_rxOk (s := setupRx .buffer buf len s) rfl hlen rfl hlc nofun fun ht => (h.enable ht).2.1).of_view rfl
  | startedBoth _ src dst len tag hlen hlc hsync =>
    exact (rxArmed_rxOk (s := s.setupBoth src dst len tag) rfl hlen rfl hlc (fun _ => hsync)
      fun ht => (h.enable ht).2.1).of_view (txArmed_rxView _)
  | stoppedTx => exact h.of_view (abortTx_rxView s)
  | stoppedRx => exact h.abortRx.of_view rfl
  | stoppedBoth => exact (h.of_view (abortTx_rxView s)).abortRx.of_view rfl
  | refilled => exact h.of_view rfl
  | endedTx => exact h.of_view ((complete_rxView _ _).trans (txEnded_rxView _ _))
  | drained _ k hk hne =>
    have hcount := advanced_count h.count hk
    refine ⟨hcount, fun ht => ?_, h.status, h.busy⟩
    obtain ⟨hbusy, hdma, -⟩ := h.enable ht
    exact ⟨hbusy, hdma, Nat.lt_of_le_of_ne hcount fun he => hne (BitVec.eq_of_toNat_eq he)⟩
  | endedRx _ rxe hrxe =>
    refine (State.RxOk.of_idle (Nat.le_refl _) ?_ ?_ rfl).of_view (complete_rxView .rx (s.rxEnded rxe))
    case refine_2 => exact (s.putRxe rxe).putRlse_rlse false
    refine ((s.putRxe rxe).putRlse_rxe false).trans ((s.putRxe_rxe rxe).trans (Bool.eq_false_of_not_eq_true fun ht => ?_))
    exact (hrxe ht).2 (h.enable (hrxe ht).1).2.1

theorem Change.modemOk (hc : Change s i u) (h : s.ModemOk) : u.ModemOk := by
  cases hc with
  | same => exact h
  | answered => exact h.of_view rfl
  | cleared => exact .of_disabled BitVec.getLsbD_zero
  | poweredDown => rw [powerDown_eq]; exact .of_disabled BitVec.getLsbD_zero
  | poweredUp _ idle =>
    cases hm : s.params.hasModem with
    | true => exact fun _ => ⟨hm, rfl⟩
    | false => exact .of_disabled BitVec.getLsbD_zero
  | configured => exact fun ht => ⟨(h ht).1, rfl⟩
  | startedTx => exact h.of_view (txArmed_modemView _)
  | startedRx => exact h.of_view (rxArmed_modemView _)
  | startedBoth => exact h.of_view ((txArmed_modemView _).trans (rxArmed_modemView _))
  | stoppedTx => exact h.of_view (abortTx_modemView s)
  | stoppedRx => exact h.of_view (abortRx_modemView s)
  | stoppedBoth => exact h.of_view ((abortRx_modemView _).trans (abortTx_modemView s))
  | refilled => exact h.of_view rfl
  | endedTx => exact h.of_view ((complete_modemView _ _).trans (txEnded_modemView _ _))
  | drained => exact h.of_view rfl
  | endedRx => exact h.of_view ((complete_modemView _ _).trans (rxEnded_modemView _ _))

theorem Change.tagOk (hc : Change s i u) (h : s.TagOk) : u.TagOk := by
  cases hc with
  | same => exact h
  | answered | refilled | drained => exact { h with }
  | cleared | stoppedTx | stoppedRx | stoppedBoth => exact .of_none rfl
  | poweredDown => rw [powerDown_eq]; exact .of_none rfl
  | poweredUp _ idle => exact .of_none (h.none_of_idle (not_busy idle).1 (not_busy idle).2)
  | configured c m d dv a idle => exact .of_none (h.none_of_idle (not_busy idle).1 (not_busy idle).2)
  | startedTx _ buf len _ _ hsync =>
    obtain ⟨cnt, ier, he⟩ := txArmed_eq (setupTx .buffer buf len s)
    rw [he]
    exact .of_none (h.none_of_async hsync)
  | startedRx _ buf len _ _ hsync =>
    obtain ⟨ier, he⟩ := rxArmed_eq (setupRx .buffer buf len s)
    rw [he]
    exact .of_none (h.none_of_async hsync)
  | startedBoth _ src dst len tag _ _ hsync =>
    obtain ⟨cnt, ier, he⟩ := armedBoth_eq (s.setupBoth src dst len tag)
    rw [he]
    exact ⟨fun _ => hsync, fun _ => rfl, fun _ => rfl, fun _ => .inl rfl⟩
  | endedTx => exact complete_tagOk h.sync nofun fun _ => h.rx
  | endedRx => exact complete_tagOk h.sync (fun _ => h.tx) nofun

/-- The fields that the ranges of the registers speak of, RESULT apart: the configuration and the parameters. -/
def State.setting (s : State) : BitVec 17 × BitVec 4 × BitVec 4 × Word × BitVec 10 × Params :=
  (s.div, s.mulval, s.divaddval, s.baud, s.cfg, s.params)

/-- What a change of the kinds that neither clear nor configure the block keeps: the configuration; and TX_SRC and RX_DST, unless
it makes them BUFFER or the mode is synchronous. -/
structure SettingKept (s u : State) : Prop where
  setting : u.setting = s.setting
  result : u.result = s.result ∨ ∃ code : ResultCode, u.result = code.bits
  txSrc : u.txSrc = s.txSrc ∨ u.txSrc = .buffer ∨ s.sync = true
  rxDst : u.rxDst = s.rxDst ∨ u.rxDst = .buffer ∨ s.sync = true

/-- Which instructions change the configuration, and how (10_state.md R31, R32). -/
theorem Change.setting_cases (hc : Change s i u) :
    SettingKept s u ∨
      (i = .initialise ∨ i = .uninitialize) ∧ (∃ lc, u = { runtimeClear s with lc := lc, result := 0 }) ∨
      i = .configure ∧ ∃ c m d dv a, Committable s.params c m d dv a ∧ u =
        { s with
          cfg := c, div := BitVec.ofNat 17 dv, mulval := BitVec.ofNat 4 m, divaddval := BitVec.ofNat 4 d
          baud := BitVec.ofNat 32 a, lc := .configured, result := 0 } := by
  cases hc with
  | cleared _ lc hi => exact .inr (.inl ⟨hi, lc, rfl⟩)
  | configured c m d dv a _ good => exact .inr (.inr ⟨rfl, c, m, d, dv, a, good, rfl⟩)
  | same | refilled | drained => exact .inl ⟨rfl, .inl rfl, .inl rfl, .inl rfl⟩
  | answered _ code => exact .inl ⟨rfl, .inr ⟨code, rfl⟩, .inl rfl, .inl rfl⟩
  | poweredUp => exact .inl ⟨rfl, .inr ⟨.ok, rfl⟩, .inl rfl, .inl rfl⟩
  | poweredDown => rw [powerDown_eq]; exact .inl ⟨rfl, .inr ⟨.ok, rfl⟩, .inl rfl, .inl rfl⟩
  | stoppedTx => rw [abortTx_eq]; exact .inl ⟨rfl, .inr ⟨.ok, rfl⟩, .inl rfl, .inl rfl⟩
  | stoppedRx => rw [abortRx_eq]; exact .inl ⟨rfl, .inr ⟨.ok, rfl⟩, .inl rfl, .inl rfl⟩
  | stoppedBoth => rw [abortRx_eq, abortTx_eq]; exact .inl ⟨rfl, .inr ⟨.ok, rfl⟩, .inl rfl, .inl rfl⟩
  | startedTx _ buf len =>
    obtain ⟨cnt, ier, he⟩ := txArmed_eq (setupTx .buffer buf len s)
    rw [he]
    exact .inl ⟨rfl, .inr ⟨.ok, rfl⟩, .inr (.inl rfl), .inl rfl⟩
  | startedRx _ buf len =>
    obtain ⟨ier, he⟩ := rxArmed_eq (setupRx .buffer buf len s)
    rw [he]
    exact .inl ⟨rfl, .inr ⟨.ok, rfl⟩, .inl rfl, .inr (.inl rfl)⟩
  | startedBoth _ src dst len tag _ _ hsync =>
    obtain ⟨cnt, ier, he⟩ := armedBoth_eq (s.setupBoth src dst len tag)
    rw [he]
    exact .inl ⟨rfl, .inr ⟨.ok, rfl⟩, .inr (.inr hsync), .inr (.inr hsync)⟩
  | endedTx _ three =>
    obtain ⟨tag, he⟩ := complete_fst .tx (s.txEnded three)
    rw [he]
    exact .inl ⟨rfl, .inl rfl, .inl rfl, .inl rfl⟩
  | endedRx _ rxe =>
    obtain ⟨tag, he⟩ := complete_fst .rx (s.rxEnded rxe)
    rw [he]
    exact .inl ⟨rfl, .inl rfl, .inl rfl, .inl rfl⟩

theorem Change.params_eq (hc : Change s i u) : u.params = s.params := by
  obtain hk | ⟨-, lc, rfl⟩ | ⟨-, c, m, d, dv, a, -, rfl⟩ := hc.setting_cases
  · exact congrArg (fun v => v.2.2.2.2.2) hk.setting
  · rfl
  · rfl

theorem resultCode_le (code : ResultCode) : code.bits.toNat ≤ 11 := by
  cases code <;> decide

theorem State.Ranges.of_setting (h : s.Ranges) (hv : u.setting = s.setting) (hresult : u.result.toNat ≤ 11) : u.Ranges := by
  simp only [State.setting, Prod.mk.injEq] at hv
  obtain ⟨hdiv, hmul, hadd, hbaud, hcfg, hpar⟩ := hv
  refine ⟨hdiv ▸ h.divLow, hdiv ▸ h.divHigh, hmul ▸ h.mulval, ?_, ?_, hcfg ▸ h.par, hbaud ▸ h.baud, hresult⟩
  · rw [hadd, hmul]; exact h.divaddval
  · rw [hcfg, hpar]; exact h.mode

/-- The registers RUNTIME_CLEAR leaves (41_lifecycle.md R140): CFG 0 is asynchronous mode, which every block has. -/
theorem State.Ranges.cleared (h : s.Ranges) (lc : Lifecycle) :
    ({ runtimeClear s with lc := lc, result := 0 } : State).Ranges :=
  ⟨h.divLow, h.divHigh, h.mulval, h.divaddval, ⟨.async, rfl, rfl⟩,
    (by decide : cfgPar 0 ≠ 3), (by decide : (0 : Word).toNat < 2 ^ 28), resultCode_le .ok⟩

theorem Committable.ranges {c : BitVec 10} {m d dv a : Nat} (h : Committable s.params c m d dv a) :
    ({ s with
      cfg := c, div := BitVec.ofNat 17 dv, mulval := BitVec.ofNat 4 m, divaddval := BitVec.ofNat 4 d
      baud := BitVec.ofNat 32 a, lc := .configured, result := 0 } : State).Ranges := by
  obtain ⟨hmode, hpar, hm, hd, hdv, ha⟩ := h
  refine ⟨?_, ?_, ?_, ?_, hmode, hpar, ?_, resultCode_le .ok⟩ <;> simp only [BitVec.toNat_ofNat] <;> omega

theorem Change.ranges (hc : Change s i u) (h : s.Ranges) : u.Ranges := by
  obtain hk | ⟨-, lc, rfl⟩ | ⟨-, c, m, d, dv, a, hgood, rfl⟩ := hc.setting_cases
  · refine h.of_setting hk.setting ?_
    obtain hr | ⟨code, hr⟩ := hk.result
    · rw [hr]; exact h.result
    · rw [hr]; exact resultCode_le code
  · exact h.cleared lc
  · exact hgood.ranges

/-- Every change keeps the invariant. -/
theorem Change.inv (hc : Change s i u) (h : s.Inv) : u.Inv := by
  obtain ⟨htx, hrx, htag, hmodem⟩ := coupled_iff.1 h.coupled
  exact ⟨hc.ranges h.ranges, coupled_iff.2 ⟨hc.txOk htx, hc.rxOk hrx, hc.tagOk htag, hc.modemOk hmodem⟩⟩

/-- Every change but CONFIGURE's keeps I-j as R44 writes it. -/
theorem Change.fillOnlyInSync (hc : Change s i u) (hi : i ≠ .configure) (hu : u.Inv) (h : s.FillOnlyInSync) :
    u.FillOnlyInSync := by
  obtain hk | ⟨-, lc, rfl⟩ | ⟨hconf, -⟩ := hc.setting_cases
  · have hcfg : u.cfg = s.cfg := congrArg (fun v => v.2.2.2.2.1) hk.setting
    have hsync : u.sync = s.sync := by rw [State.sync_eq, State.sync_eq, hcfg]
    refine ⟨hu.coupled.i_j_tag, fun hsrc => hsync.trans ?_, fun hdst => hsync.trans ?_⟩
    · obtain he | he | hs := hk.txSrc
      · exact h.tx (he.symm.trans hsrc)
      · rw [he] at hsrc; cases hsrc
      · exact hs
    · obtain he | he | hs := hk.rxDst
      · exact h.rx (he.symm.trans hdst)
      · rw [he] at hdst; cases hdst
      · exact hs
  · exact ⟨hu.coupled.i_j_tag, nofun, nofun⟩
  · exact absurd hconf hi

/-! From a change to a step: two states that differ only in what no invariant reads. -/

theorem setting_of_bare (h : u.bare = s.bare) : u.setting = s.setting := by
  show u.bare.setting = s.bare.setting
  rw [h]

theorem params_of_bare (h : u.bare = s.bare) : u.params = s.params :=
  congrArg (fun v => v.2.2.2.2.2) (setting_of_bare h)

theorem State.Inv.of_bare (h : s.Inv) (hb : u.bare = s.bare) : u.Inv := by
  have hbare : u.bare.Inv := hb ▸ ⟨{ h.ranges with }, { h.coupled with }⟩
  exact ⟨{ hbare.ranges with }, { hbare.coupled with }⟩

theorem State.FillOnlyInSync.of_bare (h : s.FillOnlyInSync) (hb : u.bare = s.bare) : u.FillOnlyInSync := by
  have hbare : u.bare.FillOnlyInSync := hb ▸ { h with }
  exact { hbare with }

/-- The state an instruction starts from has the registers of the state its request was taken in (log 4). -/
theorem withInputs_bare (s : State) (rest : List Request) (r : Request) :
    (({ s with pending := rest } : State).withInputs r).bare = s.bare := by
  cases r <;> rfl

theorem externalWrite_bare (agent : MemAgent) (a : Addr) (v : Byte) (s : State) :
    (externalWrite agent a v s).bare = s.bare := by
  unfold externalWrite
  split
  · rw [touchRx_bare, writeByte_bare]; rfl
  · exact writeByte_bare s a v

theorem externalRead_bare (agent : MemAgent) (a : Addr) (s : State) : (externalRead agent a s).bare = s.bare := by
  cases agent with
  | engine => exact touchRx_bare s a
  | host =>
    refine Eq.trans ?_ (touchRx_bare s a)
    show (hostByte a (s.touchRx a)).bare = _
    unfold hostByte
    split <;> rfl

theorem windowWrite_bare (s : State) (off : BitVec 7) (w : Word) : (s.windowWrite off w).bare = s.bare := by
  unfold State.windowWrite
  split <;> rfl

/-- Everything a request that runs no instruction can do to the registers: an illegal command word answers, a reset resets. -/
theorem serve_bare {r : Request} {s t : State} (hi : instrOf r = none) (h : serve r s = .next t) :
    t.bare = s.bare ∨ t.bare = ({ s with result := ResultCode.illegalCommand.bits } : State).bare ∨ t = resetBlock s := by
  obtain ⟨off, bytes, w, p, -, -, rfl⟩ | ⟨off, bytes, w, p, -, -, rfl⟩ | ⟨off, bytes, -, rfl⟩ | ⟨-, rfl⟩ |
    ⟨agent, a, v, -, rfl⟩ | ⟨agent, a, -, rfl⟩ := serve_cases h hi
  · exact .inr (.inl rfl)
  · exact .inl (windowWrite_bare s off w)
  · exact .inl rfl
  · exact .inr (.inr rfl)
  · exact .inl (externalWrite_bare agent a v s)
  · exact .inl (externalRead_bare agent a s)

end

section
variable {s t : State}

/-- The registers R49 gives after a reset are good, whatever the construction of the block. -/
theorem resetBlock_inv (s : State) : (resetBlock s).Inv := by
  refine ⟨⟨?_, ?_, ?_, ?_, ⟨.async, rfl, rfl⟩, ?_, ?_, resultCode_le .ok⟩, coupled_iff.2 ⟨?_, ?_, .of_none rfl, ?_⟩⟩
  case refine_1 => exact (by decide : 1 ≤ (1 : BitVec 17).toNat)
  case refine_2 => exact (by decide : (1 : BitVec 17).toNat ≤ 65536)
  case refine_3 => exact (by decide : 1 ≤ (1 : BitVec 4).toNat)
  case refine_4 => exact (by decide : (0 : BitVec 4).toNat < (1 : BitVec 4).toNat)
  case refine_5 => exact (by decide : cfgPar 0 ≠ 3)
  case refine_6 => exact (by decide : (0 : Word).toNat < 2 ^ 28)
  case refine_7 => exact .of_idle (Nat.le_refl 0) BitVec.getLsbD_zero rfl
  case refine_8 => exact .of_idle (Nat.le_refl 0) BitVec.getLsbD_zero BitVec.getLsbD_zero rfl
  case refine_9 => exact .of_disabled BitVec.getLsbD_zero

/-- Only a command word written to CMD runs CONFIGURE (30_encoding.md R87). -/
theorem instrOf_configure {r : Request} (h : instrOf r = some .configure) :
    ∃ w p, r = .hostWrite 0x00 4 w p ∧ decode (.command w) = .ok .configure := by
  cases r with
  | hostWrite off bytes w p =>
    simp only [instrOf] at h
    split at h
    · rename_i hcmd
      simp only [wordAccess, Bool.and_eq_true, beq_iff_eq] at hcmd
      obtain ⟨⟨rfl, -⟩, rfl⟩ := hcmd
      refine ⟨w, p, rfl, ?_⟩
      split at h
      · cases h; assumption
      · cases h
    · cases h
  | irq c l m f =>
    have key : ∀ c : BitVec 4, decodeIir c ≠ .configure := by decide
    exact absurd (Option.some.inj h) (key c)
  | dma c =>
    have key : ∀ c : BitVec 2, decodeCompletion c ≠ .configure := by decide
    exact absurd (Option.some.inj h) (key c)
  | _ => cases h

/-- Everything a step can do to the registers: a reset, or a kind of change; CONFIGURE's only if the step is a CONFIGURE. What a
request that runs no instruction can change, a GET_STATUS may change too. -/
theorem step_change (h : step s = .next t) :
    (∃ v, t = resetBlock v ∧ v.params = s.params) ∨
      ∃ v u i, v.bare = s.bare ∧ t.bare = u.bare ∧ Change v i u ∧
        (i = .configure → ∃ w p rest, s.pending = .hostWrite 0x00 4 w p :: rest ∧ decode (.command w) = .ok .configure) := by
  obtain ⟨r, rest, hp, ⟨i, hi, hexec⟩ | ⟨hi, hserve⟩⟩ := step_cases h
  · obtain ⟨u, hu, hb⟩ := exec_change hexec
    refine .inr ⟨_, u, i, withInputs_bare s rest r, hb, hu, ?_⟩
    rintro rfl
    obtain ⟨w, p, rfl, hdec⟩ := instrOf_configure hi
    exact ⟨w, p, rest, hp, hdec⟩
  · obtain hb | hb | rfl := serve_bare hi hserve
    · exact .inr ⟨{ s with pending := rest }, _, .getStatus, rfl, hb, .same _, nofun⟩
    · exact .inr ⟨{ s with pending := rest }, _, .getStatus, rfl, hb, .answered _ .illegalCommand, nofun⟩
    · exact .inl ⟨_, rfl, rfl⟩

end

/-- Settles O49: the reset state is the reset of any state. -/
theorem invAtReset : Obligations.InvAtReset := resetBlock_inv State.reset

/-- Settles O50: a step changes the registers in one of the ways of `Change`, each of which keeps the invariant, and only
CONFIGURE's leaves I-j as R44 writes it unkept. -/
theorem invKept : Obligations.InvKept := by
  unfold Obligations.InvKept
  intro s t hinv hstep
  obtain ⟨v, rfl, -⟩ | ⟨v, u, i, hvs, htu, hc, hi⟩ := step_change hstep
  · exact ⟨resetBlock_inv v, fun _ _ => ⟨nofun, nofun, nofun⟩⟩
  · have hu : u.Inv := hc.inv (hinv.of_bare hvs)
    refine ⟨hu.of_bare htu, fun hfill hconf => ?_⟩
    refine (hc.fillOnlyInSync ?_ hu (hfill.of_bare hvs)).of_bare htu
    intro he
    obtain ⟨w, p, rest, hp, hdec⟩ := hi he
    exact hconf w p rest hp hdec

/-- Settles O47: no kind of change concerns the parameters, and a reset keeps them. -/
theorem parametersFixed : Obligations.ParametersFixed := by
  unfold Obligations.ParametersFixed
  intro s t hstep
  obtain ⟨v, rfl, hv⟩ | ⟨v, u, i, hvs, htu, hc, -⟩ := step_change hstep
  · exact hv
  · calc t.params = u.params := params_of_bare htu
      _ = v.params := hc.params_eq
      _ = s.params := params_of_bare hvs

/-- Settles O46: of all kinds of change only CONFIGURE's, on the solver's answer, has another divisor triple or another BAUD than
0, and only INITIALIZE's and UNINITIALIZE's clears BAUD. -/
theorem divisorWriters : Obligations.DivisorWriters := by
  unfold Obligations.DivisorWriters
  intro i s t h
  obtain ⟨u, hc, htu⟩ := exec_change h
  have hset : t.setting = u.setting := setting_of_bare htu
  have htriple : (t.div, t.mulval, t.divaddval) = (u.div, u.mulval, u.divaddval) :=
    congrArg (fun v => (v.1, v.2.1, v.2.2.1)) hset
  have hbaud : t.baud = u.baud := congrArg (fun v => v.2.2.2.1) hset
  have hresult : t.result = u.result := by
    show t.bare.result = u.bare.result
    rw [htu]
  rw [htriple, hbaud, hresult]
  obtain hk | ⟨hi, lc, rfl⟩ | ⟨hi, c, m, d, dv, a, -, rfl⟩ := hc.setting_cases
  · have hs : (u.div, u.mulval, u.divaddval) = (s.div, s.mulval, s.divaddval) :=
      congrArg (fun v => (v.1, v.2.1, v.2.2.1)) hk.setting
    exact ⟨fun hne => absurd hs hne, fun hne => absurd (congrArg (fun v => v.2.2.2.1) hk.setting) hne⟩
  · exact ⟨fun hne => absurd rfl hne, fun _ => .inr ⟨hi, rfl⟩⟩
  · exact ⟨fun _ => ⟨hi, rfl⟩, fun _ => .inl ⟨hi, rfl⟩⟩
end Sys2Proof.Machine
end

section
/-! The step and the register window (spec/10_state.md R21, R39, R40, R49): which request runs an instruction, and what a host
access to each aligned offset does. -/

namespace Sys2Proof.Machine

/-- Settles O5: each of the three requests carries the code word it decodes. -/
theorem stepRunsInstruction : Obligations.StepRunsInstruction := by
  unfold Obligations.StepRunsInstruction
  intro s rest
  refine ⟨fun w p i hp hdec => ?_, fun c l m f i hp hdec => ?_, fun c i hp hdec => ?_⟩
  · have hi : instrOf (.hostWrite 0x00 4 w p) = some i := by
      simp [instrOf, wordAccess, cmdOffset, hdec]
    rw [step_cons hp, hi]
    rfl
  · cases hdec
    exact step_cons hp
  · cases hdec
    exact step_cons hp

/-- Settles O10: the reset state is a literal. -/
theorem resetValues : Obligations.ResetValues := by
  unfold Obligations.ResetValues
  decide

/-- The offsets 4k are those of the words of the window (R39, R64). -/
theorem wordAccess_aligned : ∀ k < 32, wordAccess (BitVec.ofNat 7 (4 * k)) 4 = true := by decide

/-- A host write of a word to an offset other than CMD runs no instruction and samples no input (R71; log 4). -/
theorem step_hostWrite {s : State} {rest : List Request} {off : BitVec 7} {bytes : Nat} {w p : Word}
    (hp : s.pending = .hostWrite off bytes w p :: rest) (hword : wordAccess off bytes = true) (hoff : off ≠ cmdOffset) :
    step s = .next (({ s with pending := rest } : State).windowWrite off w) := by
  have hi : instrOf (.hostWrite off bytes w p) = none := by simp [instrOf, hoff]
  rw [step_cons hp, hi]
  simp [serve, hword, hoff]

theorem step_hostRead {s : State} {rest : List Request} {off : BitVec 7} {bytes : Nat}
    (hp : s.pending = .hostRead off bytes :: rest) (hword : wordAccess off bytes = true) :
    step s = .next { s with pending := rest, rdata := s.windowRead off } :=
  (step_cons hp).trans (if_pos hword)

theorem windowWrite_ignored {k : Nat} (hk : 4 ≤ k) (hk' : k < 32) (s : State) (w : Word) :
    s.windowWrite (BitVec.ofNat 7 (4 * k)) w = s := by
  interval_cases k <;> rfl

theorem windowRead_reserved {k : Nat} (hk : 0x4C / 4 ≤ k) (hk' : k < 32) (s : State) :
    s.windowRead (BitVec.ofNat 7 (4 * k)) = 0 := by
  simp only [Nat.reduceDiv] at hk
  interval_cases k <;> rfl

/-- A register shorter than a word reads as its value. -/
theorem toNat_zero_append {m n : Nat} (x : BitVec n) : (0#m ++ x).toNat = x.toNat := by simp

/-- The two 4-bit registers of FRACDIV (R39). -/
theorem divisorPair_toNat : ∀ m d : BitVec 4, (0#24 ++ m ++ d).toNat = d.toNat + 16 * m.toNat := by decide

/-- The STICKY register, bit by bit (R39). -/
theorem stickyView_toNat (s : State) :
    s.stickyView.toNat =
      s.rxOverflow.toNat + 2 * s.rxBreak.toNat + 4 * s.rxFraming.toNat + 8 * s.rxParity.toNat := by
  have key : ∀ a b c d : Bool, (0#28 ++ BitVec.ofBool a ++ BitVec.ofBool b ++ BitVec.ofBool c ++ BitVec.ofBool d).toNat =
      d.toNat + 2 * c.toNat + 4 * b.toNat + 8 * a.toNat := by decide
  exact key _ _ _ _

/-- Settles O6: a write to 4k is served by `windowWrite`, which R39 gives offset by offset. -/
theorem hostWrites : Obligations.HostWrites := by
  unfold Obligations.HostWrites
  intro s rest k w p hk hp
  have hoff : 1 ≤ k → BitVec.ofNat 7 (4 * k) ≠ cmdOffset := by
    have key : ∀ k < 32, 1 ≤ k → BitVec.ofNat 7 (4 * k) ≠ cmdOffset := by decide
    exact key k hk
  have hstep := fun h => step_hostWrite hp (wordAccess_aligned k hk) (hoff h)
  refine ⟨?_, ?_, ?_, fun h => ?_⟩
  · rintro rfl; exact hstep (by decide)
  · rintro rfl; exact hstep (by decide)
  · rintro rfl; exact hstep (by decide)
  · rw [hstep (by omega), windowWrite_ignored h hk]

/-- Settles O7: a read of 4k answers `windowRead`, which R39 gives offset by offset. -/
theorem hostReads : Obligations.HostReads := by
  unfold Obligations.HostReads
  intro s rest k hk hp
  refine ⟨_, step_hostRead hp (wordAccess_aligned k hk), ?_, ?_, ?_, ?_, ?_, ?_, ?_, ?_, ?_, ?_, ?_, ?_, ?_, ?_, ?_, ?_, ?_, ?_,
    ?_, fun h => windowRead_reserved h hk s⟩
  all_goals rintro rfl
  case refine_19 => exact stickyView_toNat s
  case refine_9 => exact divisorPair_toNat s.mulval s.divaddval
  case refine_5 | refine_8 | refine_11 | refine_12 => exact toNat_zero_append _
  all_goals rfl

/-- Settles O8: the view is one append of the fields; those below the field that is read are taken off, one by one. -/
theorem stateViewFields : Obligations.StateViewFields := by
  unfold Obligations.StateViewFields State.stateView
  intro s
  refine ⟨?_, ?_, ?_, ?_, ?_, ?_, ?_, ?_, ?_⟩
  case refine_2 | refine_3 | refine_4 =>
    repeat rw [BitVec.getLsbD_append]
    simp
  all_goals repeat rw [BitVec.extractLsb'_append_eq_of_le (by decide)]
  case refine_1 => exact BitVec.extractLsb'_append_eq_right.trans (by cases s.lc <;> rfl)
  case refine_5 => exact BitVec.extractLsb'_append_eq_right.trans (by cases s.syncTag <;> rfl)
  case refine_6 => exact BitVec.extractLsb'_append_eq_right.trans (by cases s.txSrc <;> rfl)
  case refine_7 => exact BitVec.extractLsb'_append_eq_right.trans (by cases s.rxDst <;> rfl)
  case refine_8 => exact BitVec.extractLsb'_append_eq_right
  case refine_9 => rfl

end Sys2Proof.Machine
end

section
/-! The shared data memory seen by another agent (spec/10_state.md R47, 20_memory.md R68, R72, R76). The terms of the statement are
those of the spec; each is tied here to the model's own, and each access is then described in them. -/

namespace Sys2Proof.Machine

theorem receives_iff {s : State} {a : Addr} : Expected.receives s a ↔ s.rxOwns a = true := by
  simp [Expected.receives, State.rxOwns, and_assoc]

theorem onRecord_iff {u : List Span} {a : Addr} : Expected.onRecord u a ↔ covered u a = true := covered_eq_true.symm

theorem foreign_iff {s : State} {agent : MemAgent} {a : Addr} :
    Expected.foreign s agent a ↔ (s.rxOwns a && s.rxForeign agent) = true := by
  rw [Expected.foreign, receives_iff, Bool.and_eq_true]
  cases agent <;> simp [State.rxForeign]

/-- The bytes that an access makes unknown: those of the RX buffer, from RX_CNT on in the interrupt path (R297, U2). -/
theorem unsettled_iff {s : State} {a : Addr} : Expected.unsettled s a ↔ s.rxSettled ≤ (a - s.rxBuf).toNat := by
  unfold Expected.unsettled State.rxSettled
  cases s.params.rxDma <;> simp

/-- An access in the buffer of an outstanding receive puts the unsettled part of that buffer on record (R72, U2). -/
theorem onRecord_touchRx {s : State} {a b : Addr} :
    Expected.onRecord (s.touchRx a).unknown b ↔
      Expected.onRecord s.unknown b ∨ Expected.receives s a ∧ Expected.receives s b ∧ Expected.unsettled s b := by
  rw [onRecord_iff, onRecord_iff, covered_touchRx, unsettled_iff, receives_iff, receives_iff]
  simp only [State.rxOwns, Bool.or_eq_true, Bool.and_eq_true, decide_eq_true_eq]
  tauto

/-- A byte written is known, unless it is one of an RX transfer of the engine (U2). -/
theorem onRecord_unknownBut {s : State} {a b : Addr} :
    Expected.onRecord (s.unknownBut a) b ↔
      Expected.onRecord s.unknown b ∧ ¬(b = a ∧ ¬(Expected.receives s a ∧ s.params.rxDma ≠ none)) := by
  rw [onRecord_iff, onRecord_iff, covered_unknownBut, receives_iff]
  simp only [Bool.or_eq_true, Bool.and_eq_true, Bool.not_eq_true', decide_eq_false_iff_not, Option.isSome_iff_ne_none]
  tauto

/-- A write at DUMP_ADDR is discarded, and makes nothing known (R76). -/
theorem onRecord_writeByte {s : State} {a b : Addr} {v : Byte} :
    Expected.onRecord (s.writeByte a v).unknown b ↔
      Expected.onRecord s.unknown b ∧
        ¬(b = a ∧ a ≠ s.params.dumpAddr ∧ ¬(Expected.receives s a ∧ s.params.rxDma ≠ none)) := by
  unfold State.writeByte
  split
  · rename_i hdump
    simp [hdump]
  · rename_i hdump
    simp only [onRecord_unknownBut, ne_eq, hdump, not_false_eq_true, true_and]

/-- Everything a byte write does to the memory and to the record of unknown bytes. -/
theorem writeByte_spec (s : State) (a : Addr) (v : Byte) :
    ∃ m old u d, s.writeByte a v = { s with mem := m, stale := old, unknown := u, draws := d } ∧
      m = (if a = s.params.dumpAddr then s.mem else s.mem.write a.toNat v) ∧
      ∀ b, Expected.onRecord u b ↔
        Expected.onRecord s.unknown b ∧
          ¬(b = a ∧ a ≠ s.params.dumpAddr ∧ ¬(Expected.receives s a ∧ s.params.rxDma ≠ none)) := by
  obtain ⟨m, old, u, d, hw⟩ := writeByte_eq s a v
  have hm := writeByte_mem s a v
  have hu := fun b => onRecord_writeByte (s := s) (a := a) (b := b) (v := v)
  rw [hw] at hm hu
  exact ⟨m, old, u, d, hw, hm, hu⟩

/-- Once the buffer around `a` was touched, the byte at `a` is unknown exactly if the host may read any value there. -/
theorem freeToHost_iff {s : State} {a : Addr} : Expected.freeToHost s a ↔ (s.touchRx a).unknownAt a = true := by
  have h : (s.touchRx a).unknownAt a = (a != s.params.fillAddr && covered (s.touchRx a).unknown a) := by
    rw [State.unknownAt, show (s.touchRx a).params = s.params by rw [touchRx_eq]]
  rw [h, Bool.and_eq_true, ← onRecord_iff, onRecord_touchRx, bne_iff_ne, Expected.freeToHost]
  tauto

section
variable {s : State} {rest : List Request}

/-- A host read answers with a free value or with the byte, and leaves the record an access leaves (R72, R297). -/
theorem externalRead_host (s : State) (a : Addr) :
    ∃ v d u, externalRead .host a s = { s with rdata := BitVec.setWidth 32 v, draws := d, unknown := u } ∧
      u = (s.touchRx a).unknown ∧
      (Expected.freeToHost s a → v = Config.freeByte s.draws ∧ d = s.draws + 1) ∧
      (¬Expected.freeToHost s a → v = Expected.byteAt s a ∧ d = s.draws) := by
  rw [freeToHost_iff]
  show ∃ v d u, hostByte a (s.touchRx a) = _ ∧ _
  unfold hostByte
  split
  · rename_i hfree
    exact ⟨_, _, _, by rw [touchRx_eq], rfl, fun _ => ⟨rfl, rfl⟩, fun h => absurd hfree h⟩
  · rename_i hfree
    exact ⟨Expected.byteAt s a, s.draws, _, by rw [touchRx_eq]; rfl, rfl, fun h => absurd h hfree, fun _ => ⟨rfl, rfl⟩⟩

/-- The value another agent's write stores: a free one where it is foreign to the RX transfer that owns the byte (R72). -/
def State.storedBy (s : State) (agent : MemAgent) (a : Addr) (v : Byte) : Byte :=
  if s.rxOwns a && s.rxForeign agent then Config.freeByte s.draws else v

/-- A write by another agent changes the memory and the model's records alone. -/
theorem externalWrite_spec (agent : MemAgent) (a : Addr) (v : Byte) (s : State) :
    ∃ m old u d, externalWrite agent a v s = { s with mem := m, stale := old, unknown := u, draws := d } ∧
      m = (if a = s.params.dumpAddr then s.mem else s.mem.write a.toNat (s.storedBy agent a v)) ∧
      ∀ b, Expected.onRecord u b ↔
        Expected.onRecord s.unknown b ∧
            ¬(b = a ∧ a ≠ s.params.dumpAddr ∧ ¬(Expected.receives s a ∧ s.params.rxDma ≠ none)) ∨
          Expected.foreign s agent a ∧ Expected.receives s b ∧ Expected.unsettled s b := by
  unfold externalWrite State.storedBy
  simp only [foreign_iff]
  cases hf : s.rxOwns a && s.rxForeign agent with
  | false =>
    obtain ⟨m, old, u, d, hw, hm, hu⟩ := writeByte_spec s a v
    exact ⟨m, old, u, d, hw, hm, fun b => (hu b).trans (by simp)⟩
  | true =>
    have hown : Expected.receives s a := receives_iff.2 (Bool.and_eq_true_iff.1 hf).1
    obtain ⟨m, old, u, d, hw, hm, hu⟩ := writeByte_spec { s with draws := s.draws + 1 } a (Config.freeByte s.draws)
    simp only [if_true, hw]
    rw [touchRx_eq]
    refine ⟨m, old, _, d, rfl, hm, fun b => onRecord_touchRx.trans ?_⟩
    exact or_congr (hu b) (and_congr_left' ⟨fun _ => trivial, fun _ => hown⟩)

/-- A request of another agent runs no instruction. -/
theorem step_memRead {agent : MemAgent} {a : Addr} (hp : s.pending = .memRead agent a :: rest) :
    step s = .next (externalRead agent a { s with pending := rest }) := step_cons hp

theorem step_memWrite {agent : MemAgent} {a : Addr} {v : Byte} (hp : s.pending = .memWrite agent a v :: rest) :
    step s = .next (externalWrite agent a v { s with pending := rest }) := step_cons hp

end

/-- Settles O60: the step serves the request, and `externalRead` and `externalWrite` do what the statement says. -/
theorem sharedMemory : Obligations.SharedMemory := by
  unfold Obligations.SharedMemory
  intro s rest a
  refine ⟨fun hp => ?_, fun hp => ?_, fun agent v hp hwf => ?_⟩
  · obtain ⟨v, d, u, ht, rfl, hfree, hknown⟩ := externalRead_host { s with pending := rest } a
    exact ⟨v, d, _, (step_memRead hp).trans (congrArg _ ht), hfree, hknown, fun b => onRecord_touchRx⟩
  · exact ⟨_, (step_memRead hp).trans (congrArg _ (touchRx_eq _ a)), fun b => onRecord_touchRx⟩
  · obtain ⟨m, old, u, d, ht, hm, hu⟩ := externalWrite_spec agent a v { s with pending := rest }
    refine ⟨_, (step_memWrite hp).trans (congrArg _ ht), rfl, fun hdump hforeign => ?_, fun hdump hforeign => ?_,
      fun b hb => ?_, hu⟩
    · rw [hm, if_neg hdump, Memory.read_write hwf, if_pos rfl]
      exact if_pos (foreign_iff.1 hforeign)
    · rw [hm, if_neg hdump, Memory.read_write hwf, if_pos rfl]
      exact if_neg (mt foreign_iff.2 hforeign)
    · rw [hm]
      split
      · rfl
      · rename_i hdump
        have hne : b ≠ a := hb.resolve_right hdump
        exact Memory.read_write_other (mt BitVec.eq_of_toNat_eq hne)

end Sys2Proof.Machine
end

section
/-! Non-interference of the parameters that no rule reads (spec/10_state.md R24, R39, 00_scope.md R7): replacing them commutes with
every operation of the model, and so with every instruction. -/

namespace Sys2Proof.Machine

/-- The answer with its value, if it has one, changed by `g`. -/
def mapNext {α : Type} (g : α → α) (o : Answer α) : Answer α :=
  match o with
  | .next a => .next (g a)
  | .fault r => .fault r
  | .refused r => .refused r

theorem onNext_eq (f : State → State) (o : Result) : Expected.onNext f o = mapNext f o := by
  cases o <;> rfl

@[simp] theorem mapNext_next {α : Type} (g : α → α) (a : α) : mapNext g (.next a) = .next (g a) := rfl

@[simp] theorem mapNext_fault {α : Type} (g : α → α) (r : Fault) : mapNext g (.fault r) = .fault r := rfl

@[simp] theorem mapNext_refused {α : Type} (g : α → α) (r : Refusal) : mapNext g (.refused r) = .refused r := rfl

section
variable {α β : Type} {g : α → α} {h : β → β}

/-- Two parts in a row commute with a change if each of them does. -/
theorem mapNext_andThen {o o' : Answer α} {f f' : α → Answer β} (ho : o' = mapNext g o)
    (hf : ∀ a, f' (g a) = mapNext h (f a)) : andThen o' f' = mapNext h (andThen o f) := by
  subst ho
  cases o with
  | next a => exact hf a
  | fault r => rfl
  | refused r => rfl

/-- A check that the change does not touch. -/
theorem mapNext_ite {c : Prop} [Decidable c] {x x' y y' : Answer α} (hx : x' = mapNext g x) (hy : y' = mapNext g y) :
    (if c then x' else y') = mapNext g (if c then x else y) := by
  split
  · exact hx
  · exact hy

end

/-- `s` in a block that differs in the parameters that no rule reads, which are taken from `q`. -/
def State.reparam (q : Params) (s : State) : State := { s with params := Expected.otherParams q s.params }

section
variable (q : Params) (s : State)

/-- The change of the state in an answer that comes with a value. -/
abbrev reparamSnd {α : Type} (r : α × State) : α × State := (r.1, r.2.reparam q)

abbrev reparamFst {α : Type} (r : State × α) : State × α := (r.1.reparam q, r.2)

@[simp] theorem reparam_sync : (s.reparam q).sync = s.sync := rfl
@[simp] theorem reparam_syncTag : (s.reparam q).syncTag = s.syncTag := rfl
@[simp] theorem reparam_anyBusy : (s.reparam q).anyBusy = s.anyBusy := rfl
@[simp] theorem reparam_txSrc : (s.reparam q).txSrc = s.txSrc := rfl
@[simp] theorem reparam_rxDst : (s.reparam q).rxDst = s.rxDst := rfl
@[simp] theorem reparam_lc : (s.reparam q).lc = s.lc := rfl
@[simp] theorem reparam_arg0 : (s.reparam q).arg0 = s.arg0 := rfl
@[simp] theorem reparam_arg1 : (s.reparam q).arg1 = s.arg1 := rfl
@[simp] theorem reparam_txDma : (s.reparam q).params.txDma = s.params.txDma := rfl
@[simp] theorem reparam_rxDma : (s.reparam q).params.rxDma = s.params.rxDma := rfl
@[simp] theorem reparam_rxOwns (a : Addr) : (s.reparam q).rxOwns a = s.rxOwns a := rfl
@[simp] theorem reparam_staleAt (a : Addr) : (s.reparam q).staleAt a = s.staleAt a := rfl
@[simp] theorem reparam_unknownAt (a : Addr) : (s.reparam q).unknownAt a = s.unknownAt a := rfl

theorem reparam_touchRx (a : Addr) : (s.reparam q).touchRx a = (s.touchRx a).reparam q := by
  unfold State.touchRx
  rw [reparam_rxOwns]
  split <;> rfl

theorem reparam_blockTouch (a : Addr) : (s.reparam q).blockTouch a = (s.blockTouch a).reparam q := by
  unfold State.blockTouch
  rw [reparam_sync]
  split
  · rfl
  · exact reparam_touchRx q s a

theorem reparam_settleRx : (s.reparam q).settleRx = s.settleRx.reparam q := by
  unfold State.settleRx
  rw [reparam_rxDst]
  split <;> rfl

theorem reparam_writeByte (a : Addr) (v : Byte) : (s.reparam q).writeByte a v = (s.writeByte a v).reparam q := by
  unfold State.writeByte
  show (if a = s.params.dumpAddr then _ else _) = _
  split <;> rfl

theorem reparam_pickByte (a : Addr) : pickByte a (s.reparam q) = reparamSnd q (pickByte a s) := by
  unfold pickByte
  rw [reparam_unknownAt, reparam_staleAt]
  split
  · rfl
  · split <;> rfl

theorem reparam_loadByte (a : Addr) : loadByte a (s.reparam q) = mapNext (reparamSnd q) (loadByte a s) := by
  refine mapNext_ite ?_ rfl
  rw [reparam_blockTouch, mapNext_next, ← reparam_pickByte]
  rfl

theorem reparam_storeByte (a : Addr) (v : Byte) :
    storeByte a v (s.reparam q) = mapNext (State.reparam q) (storeByte a v s) := by
  refine mapNext_ite ?_ rfl
  rw [mapNext_next, ← reparam_writeByte]
  rfl

theorem reparam_dmaProgram (r : DmaRequest) : dmaProgram r (s.reparam q) = mapNext (State.reparam q) (dmaProgram r s) :=
  mapNext_ite rfl rfl

theorem reparam_complete (side : Side) : complete side (s.reparam q) = reparamFst q (complete side s) := by
  unfold complete
  rw [reparam_sync, reparam_syncTag, reparam_anyBusy]
  cases s.sync <;> cases s.syncTag <;> cases side <;> cases s.anyBusy <;> rfl

theorem reparam_deliver (mask : EventMask) : deliver mask (s.reparam q) = (deliver mask s).reparam q := by
  rw [deliver_eq, deliver_eq]; rfl

theorem reparam_dispatch {o o' : Answer (State × EventMask)} (ho : o' = mapNext (reparamFst q) o) :
    dispatch o' = mapNext (State.reparam q) (dispatch o) :=
  mapNext_andThen ho fun r => congrArg _ (reparam_deliver q r.1 r.2)

theorem reparam_txByte (i : Word) : txByte i (s.reparam q) = mapNext (reparamSnd q) (txByte i s) := by
  unfold txByte
  rw [reparam_txSrc]
  cases s.txSrc with
  | fill => rfl
  | buffer => exact reparam_loadByte q s (s.txBuf + i)

theorem reparam_pushChars (k : Nat) : ∀ (i : Word) (s : State),
    pushChars k i (s.reparam q) = mapNext (State.reparam q) (pushChars k i s) := by
  induction k with
  | zero => intro i s; rfl
  | succ k ih => exact fun i s => mapNext_andThen (reparam_txByte q s i) fun r => ih (i + 1) (r.2.emit (.thr r.1))

theorem reparam_armTx : armTx (s.reparam q) = mapNext (State.reparam q) (armTx s) := by
  unfold armTx
  rw [reparam_txDma]
  cases s.params.txDma with
  | some ch => exact reparam_dmaProgram q s (s.txRequest ch)
  | none => exact mapNext_andThen (reparam_pushChars q _ 0 s) fun t => rfl

theorem reparam_armRx : armRx (s.reparam q) = mapNext (State.reparam q) (armRx s) := by
  unfold armRx
  rw [reparam_rxDma]
  cases s.params.rxDma with
  | some ch => exact reparam_dmaProgram q (s.putRlse true) (s.rxRequest ch)
  | none => rfl

theorem reparam_armBoth : armBoth (s.reparam q) = mapNext (State.reparam q) (armBoth s) :=
  mapNext_andThen (reparam_armRx q s) (reparam_armTx q)

theorem reparam_abortTx : abortTx (s.reparam q) = (abortTx s).reparam q := by
  rw [abortTx_eq, abortTx_eq]; rfl

theorem reparam_abortRx : abortRx (s.reparam q) = (abortRx s).reparam q := by
  rw [abortRx_eq, abortRx_eq]; rfl

theorem reparam_drainChar (c : Byte) : drainChar c (s.reparam q) = mapNext (State.reparam q) (drainChar c s) := by
  unfold drainChar
  rw [reparam_rxDst]
  cases s.rxDst with
  | buffer => exact reparam_storeByte q s.rxRead (s.rxBuf + s.rxCnt) c
  | discard => rfl

theorem reparam_drainChars (cs : List Byte) : ∀ s : State,
    drainChars cs (s.reparam q) = mapNext (State.reparam q) (drainChars cs s) := by
  induction cs with
  | nil => intro s; rfl
  | cons c cs ih => exact fun s => mapNext_andThen (reparam_drainChar q s c) fun t => ih { t with rxCnt := t.rxCnt + 1 }

theorem reparam_drain : drain (s.reparam q) = mapNext (reparamFst q) (drain s) := by
  refine mapNext_andThen (reparam_drainChars q _ s) fun t => mapNext_ite ?_ rfl
  rw [mapNext_next, ← reparam_complete]
  rfl

theorem reparam_threCase : threCase (s.reparam q) = mapNext (reparamFst q) (threCase s) := by
  refine mapNext_andThen (reparam_pushChars q _ _ s) fun t => mapNext_ite ?_ rfl
  rw [mapNext_next, ← reparam_complete]
  rfl

theorem reparam_dmaTxDone : dmaTxDone (s.reparam q) = mapNext (reparamFst q) (dmaTxDone s) :=
  congrArg Host.Outcome.next (reparam_complete q { s with txCnt := s.txNum, sendActive := false } .tx)

theorem reparam_dmaRxDone : dmaRxDone (s.reparam q) = mapNext (reparamFst q) (dmaRxDone s) := by
  unfold dmaRxDone
  rw [reparam_settleRx]
  exact congrArg Host.Outcome.next
    (reparam_complete q { s.settleRx.putRlse false with rxCnt := s.rxNum, rxBusy := false } .rx)

theorem reparam_execInitialize :
    execInitialize (s.reparam q) = mapNext (State.reparam q) (execInitialize s) := by
  refine mapNext_ite rfl ?_
  rw [reparam_lc]
  cases s.lc <;> rfl

theorem reparam_execUninitialize :
    execUninitialize (s.reparam q) = mapNext (State.reparam q) (execUninitialize s) := by
  unfold execUninitialize
  rw [reparam_lc, powerDown_eq, powerDown_eq]
  split <;> rfl

theorem reparam_execPowerControl :
    execPowerControl (s.reparam q) = mapNext (State.reparam q) (execPowerControl s) := by
  unfold execPowerControl
  rw [reparam_arg0]
  cases argPowerState s.arg0 with
  | none => rfl
  | some p =>
    cases p with
    | low => rfl
    | off => exact mapNext_ite (by rw [powerDown_eq, powerDown_eq]; rfl) rfl
    | full => exact mapNext_ite rfl (mapNext_ite rfl rfl)

theorem reparam_commitBaud (r : SolveResult) : commitBaud r (s.reparam q) = mapNext (State.reparam q) (commitBaud r s) := by
  cases r <;> rfl

theorem reparam_execConfigure : execConfigure (s.reparam q) = mapNext (State.reparam q) (execConfigure s) := by
  refine mapNext_ite rfl ?_
  rw [reparam_arg1]
  cases modeOfBits (cfgMode (argCfg s.arg1)) with
  | none => rfl
  | some mode =>
    exact mapNext_ite rfl <| mapNext_ite rfl <| mapNext_ite rfl <| mapNext_ite rfl <| mapNext_ite rfl <|
      reparam_commitBaud q s _

/-- A start: what is set up, then armed. -/
theorem reparam_start {arm : State → Result} (harm : ∀ s, arm (s.reparam q) = mapNext (State.reparam q) (arm s))
    {v v' : State} (hv : v' = v.reparam q) :
    andThen (arm v') succeed = mapNext (State.reparam q) (andThen (arm v) succeed) := by
  subst hv
  exact mapNext_andThen (harm v) fun _ => rfl

theorem reparam_execSend : execSend (s.reparam q) = mapNext (State.reparam q) (execSend s) :=
  mapNext_ite rfl <| mapNext_ite rfl <| mapNext_ite rfl <|
    mapNext_ite (reparam_start q (reparam_armBoth q) rfl) (reparam_start q (reparam_armTx q) rfl)

theorem reparam_execReceive : execReceive (s.reparam q) = mapNext (State.reparam q) (execReceive s) :=
  mapNext_ite rfl <| mapNext_ite rfl <| mapNext_ite rfl <|
    mapNext_ite (reparam_start q (reparam_armBoth q) rfl) (reparam_start q (reparam_armRx q) rfl)

theorem reparam_execTransfer : execTransfer (s.reparam q) = mapNext (State.reparam q) (execTransfer s) :=
  mapNext_ite rfl <| mapNext_ite rfl <| mapNext_ite rfl <| mapNext_ite rfl <| reparam_start q (reparam_armBoth q) rfl

theorem reparam_execAbortSend : execAbortSend (s.reparam q) = mapNext (State.reparam q) (execAbortSend s) := by
  unfold execAbortSend
  rw [reparam_sync, reparam_abortTx, reparam_abortRx]
  split <;> rfl

theorem reparam_execAbortReceive :
    execAbortReceive (s.reparam q) = mapNext (State.reparam q) (execAbortReceive s) := by
  unfold execAbortReceive
  rw [reparam_sync, reparam_abortTx]
  split
  · rw [reparam_abortRx]; rfl
  · rw [reparam_abortRx]; rfl

theorem reparam_execAbortTransfer :
    execAbortTransfer (s.reparam q) = mapNext (State.reparam q) (execAbortTransfer s) := by
  unfold execAbortTransfer
  rw [reparam_abortTx, reparam_abortRx]
  rfl

/-- A dispatch that its enable or its channel gates. -/
theorem reparam_gated {c : Prop} [Decidable c] {o o' : Answer (State × EventMask)} (ho : o' = mapNext (reparamFst q) o) :
    dispatch (if c then o' else ignore (s.reparam q)) =
      mapNext (State.reparam q) (dispatch (if c then o else ignore s)) :=
  reparam_dispatch q (mapNext_ite ho rfl)

/-- An instruction runs alike in two blocks that differ in the parameters no rule reads. -/
theorem reparam_exec (i : Instr) : exec i (s.reparam q) = mapNext (State.reparam q) (exec i s) := by
  cases i with
  | initialise => exact reparam_execInitialize q s
  | uninitialize => exact reparam_execUninitialize q s
  | powerControl => exact reparam_execPowerControl q s
  | configure => exact reparam_execConfigure q s
  | setTxFill => exact mapNext_ite rfl (mapNext_ite rfl rfl)
  | send => exact reparam_execSend q s
  | receive => exact reparam_execReceive q s
  | transfer => exact reparam_execTransfer q s
  | getTxCount | getRxCount | getStatus => rfl
  | abortSend => exact reparam_execAbortSend q s
  | abortReceive => exact reparam_execAbortReceive q s
  | abortTransfer => exact reparam_execAbortTransfer q s
  | irqThre => exact reparam_gated q s (reparam_threCase q s)
  | irqRls => exact reparam_gated q s rfl
  | irqRda => exact reparam_gated q s (reparam_drain q s)
  | irqCti => exact reparam_gated q s (mapNext_andThen (reparam_drain q s) fun _ => rfl)
  | irqMs => exact reparam_gated q s rfl
  | dmaTxOk => exact reparam_gated q s (reparam_dmaTxDone q s)
  | dmaRxOk => exact reparam_gated q s (reparam_dmaRxDone q s)
  | irqNone | irqReserved8 | irqReservedA | irqReservedE | dmaTxError | dmaRxError =>
    exact reparam_dispatch q (o := ignore s) rfl

/-- Settles O58: the instruction and the change of parameters commute. -/
theorem unreadParameters : Obligations.UnreadParameters := by
  unfold Obligations.UnreadParameters
  intro i s q
  rw [onNext_eq]
  exact reparam_exec q s i

end

end Sys2Proof.Machine
end

section
/-! Accesses that are not admitted (spec/20_memory.md R64, R66, R75): a host access that is no aligned word, and a start or a
dispatch that asks for a byte access or a request the platform rejects. A loop of byte accesses faults as soon as one of them
is rejected, since those before it change nothing that a later one depends on. -/

namespace Sys2Proof.Machine

/-- A word access is four bytes at a multiple of 4 (R64). -/
theorem wordAccess_eq (off : BitVec 7) (bytes : Nat) : wordAccess off bytes = decide (bytes = 4 ∧ off.toNat % 4 = 0) := by
  have key : ∀ off : BitVec 7, (off.extractLsb' 0 2 == 0#2) = decide (off.toNat % 4 = 0) := by decide
  rw [wordAccess, key, Bool.decide_and]
  rfl

/-- Settles O9: no such access runs an instruction, and `serve` refuses it. -/
theorem misalignedAccessRefused : Obligations.MisalignedAccessRefused := by
  unfold Obligations.MisalignedAccessRefused
  intro s rest off bytes hbad
  have hword : wordAccess off bytes = false := by
    rw [wordAccess_eq, decide_eq_false_iff_not]
    exact fun ⟨hbytes, hoff⟩ => hbad.elim (absurd hbytes) (absurd hoff)
  refine ⟨fun w p hp => ?_, fun hp => ?_⟩
  · have hi : instrOf (.hostWrite off bytes w p) = none := by simp [instrOf, hword]
    rw [step_cons hp, hi]
    simp [serve, hword]
  · rw [step_cons hp]
    simp [instrOf, serve, hword]

/-! The loops of byte accesses. -/

/-- A refill that reaches a byte the memory does not admit faults (R66, R170). -/
theorem pushChars_fault {k : Nat} : ∀ {i : Word} {s : State}, s.txSrc = .buffer →
    (∃ j < k, s.params.memAdmits .read (s.txBuf + (i + BitVec.ofNat 32 j)) = false) →
    ∃ a, pushChars k i s = .fault (.memNotAdmitted .read a) := by
  induction k with
  | zero => rintro i s - ⟨j, hj, -⟩; exact absurd hj (Nat.not_lt_zero j)
  | succ k ih =>
    rintro i s hsrc ⟨j, hj, hrej⟩
    have htx : txByte i s = loadByte (s.txBuf + i) s := by simp only [txByte, hsrc]
    rw [pushChars, htx]
    cases hadm : s.params.memAdmits .read (s.txBuf + i) with
    | false => exact ⟨s.txBuf + i, by simp [loadByte, hadm]⟩
    | true =>
      obtain ⟨r, hr⟩ := loadByte_admitted hadm
      obtain ⟨-, -, d, hkept⟩ := loadByte_next hr
      rw [hr, andThen_next, hkept]
      cases j with
      | zero => simp [hadm] at hrej
      | succ j => exact ih hsrc ⟨j, by omega, by rw [word_shift]; exact hrej⟩

/-- A drain that reaches a byte the memory does not admit faults (R66, R224). -/
theorem drainChars_fault {cs : List Byte} : ∀ {s : State}, s.rxDst = .buffer →
    (∃ j < cs.length, s.params.memAdmits .write (s.rxBuf + (s.rxCnt + BitVec.ofNat 32 j)) = false) →
    ∃ a, drainChars cs s = .fault (.memNotAdmitted .write a) := by
  induction cs with
  | nil => rintro s - ⟨j, hj, -⟩; exact absurd hj (Nat.not_lt_zero j)
  | cons c cs ih =>
    rintro s hdst ⟨j, hj, hrej⟩
    rw [drainChars]
    cases hadm : s.params.memAdmits .write (s.rxBuf + s.rxCnt) with
    | false => exact ⟨s.rxBuf + s.rxCnt, by simp [drainChar, hdst, storeByte, hadm]⟩
    | true =>
      obtain ⟨m, old, u, d, hc, -⟩ := drainChar_ok (c := c) (s := s) fun _ => hadm
      rw [hc, andThen_next]
      cases j with
      | zero => simp [hadm] at hrej
      | succ j => exact ih hdst ⟨j, Nat.lt_of_succ_lt_succ hj, by rw [word_shift]; exact hrej⟩

/-- The characters a drain reads (R224). -/
theorem drained_length (s : State) :
    (s.fifo.take (s.rxNum.toNat - s.rxCnt.toNat)).length = Expected.drainCount s := by
  rw [List.length_take, Nat.min_comm, Expected.drainCount]

theorem drain_fault {s : State} (hdst : s.rxDst = .buffer)
    (h : ∃ j < Expected.drainCount s, s.params.memAdmits .write (Expected.drainAddr s j) = false) :
    ∃ a, drain s = .fault (.memNotAdmitted .write a) := by
  rw [← drained_length] at h
  obtain ⟨a, ha⟩ := drainChars_fault hdst h
  exact ⟨a, by rw [drain, ha, andThen_fault]⟩

/-- Settles O38: the dispatch begins with the refill or the drain, which faults. -/
theorem dispatchNotAdmitted : Obligations.DispatchNotAdmitted := by
  unfold Obligations.DispatchNotAdmitted
  refine fun s => ⟨fun hthree hsrc h => ?_, fun hrxe hdst h => ?_⟩
  · obtain ⟨a, ha⟩ := pushChars_fault hsrc h
    have hcase : threCase s = .fault (.memNotAdmitted .read a) := congrArg (andThen · _) ha
    refine ⟨a, (congrArg dispatch (if_pos hthree)).trans ?_⟩
    rw [hcase]
    rfl
  · obtain ⟨a, ha⟩ := drain_fault hdst h
    refine ⟨⟨a, (congrArg dispatch (if_pos hrxe)).trans ?_⟩, ⟨a, (congrArg dispatch (if_pos hrxe)).trans ?_⟩⟩
    · rw [ha]; rfl
    · rw [ha]; rfl

/-! The starts. -/

/-- A part of a step that does not answer because the platform does not admit what it asks for. -/
def NotAdmitted {α : Type} (o : Answer α) : Prop :=
  (∃ dir a, o = .fault (.memNotAdmitted dir a)) ∨ ∃ r, o = .refused (.dmaNotAdmitted r)

/-- Such a part ends the step. -/
theorem NotAdmitted.andThen {α β : Type} {o : Answer α} {f : α → Answer β} (h : NotAdmitted o) :
    NotAdmitted (Machine.andThen o f) := by
  obtain ⟨dir, a, rfl⟩ | ⟨r, rfl⟩ := h
  · exact .inl ⟨dir, a, rfl⟩
  · exact .inr ⟨r, rfl⟩

theorem dmaProgram_notAdmitted {r : DmaRequest} {s : State} (h : ¬s.params.dmaAdmits r = true) :
    NotAdmitted (dmaProgram r s) := .inr ⟨r, if_neg h⟩

/-- What arming TX asks for is what `txAdmitted` names (R173). -/
theorem armTx_notAdmitted {s : State} (h : ¬Expected.txAdmitted s s.txSrc s.txBuf s.txNum) : NotAdmitted (armTx s) := by
  unfold Expected.txAdmitted at h
  unfold armTx
  cases hch : s.params.txDma with
  | some ch => rw [hch] at h; exact dmaProgram_notAdmitted h
  | none =>
    rw [hch] at h
    simp only [Classical.not_imp, not_forall, Bool.not_eq_true] at h
    obtain ⟨hsrc, j, hj, hrej⟩ := h
    obtain ⟨a, ha⟩ := pushChars_fault (k := min Config.burst s.txNum.toNat) (i := 0) hsrc
      ⟨j, hj, by rw [BitVec.ofNat_eq_ofNat, BitVec.zero_add]; exact hrej⟩
    exact NotAdmitted.andThen (.inl ⟨.read, a, ha⟩)

theorem armRx_notAdmitted {s : State} (h : ¬Expected.rxAdmitted s s.rxDst s.rxBuf s.rxNum) : NotAdmitted (armRx s) := by
  unfold Expected.rxAdmitted at h
  unfold armRx
  cases hch : s.params.rxDma with
  | some ch => rw [hch] at h; exact dmaProgram_notAdmitted h
  | none => rw [hch] at h; exact absurd trivial h

/-- Arming RX where it is admitted changes IER and the output alone (R174). -/
theorem armRx_admitted {s : State} (h : Expected.rxAdmitted s s.rxDst s.rxBuf s.rxNum) :
    ∃ e acts, armRx s = .next { s with ier := e, out := acts } := by
  unfold Expected.rxAdmitted at h
  unfold armRx
  cases hch : s.params.rxDma with
  | some ch => rw [hch] at h; exact ⟨_, _, if_pos h⟩
  | none => exact ⟨_, _, rfl⟩

/-- A synchronous start stops at the first of its two sides that is not admitted (R178). -/
theorem armBoth_notAdmitted {s : State}
    (h : ¬(Expected.rxAdmitted s s.rxDst s.rxBuf s.rxNum ∧ Expected.txAdmitted s s.txSrc s.txBuf s.txNum)) :
    NotAdmitted (armBoth s) := by
  by_cases hrx : Expected.rxAdmitted s s.rxDst s.rxBuf s.rxNum
  · obtain ⟨e, acts, ht⟩ := armRx_admitted hrx
    rw [armBoth, ht, andThen_next]
    exact armTx_notAdmitted fun htx => h ⟨hrx, htx⟩
  · exact (armRx_notAdmitted hrx).andThen

theorem inSync_eq (s : State) : Expected.inSync s = s.sync := by
  rw [Expected.inSync, Bool.decide_or]
  rfl

/-- A list of checks answers no code exactly if none of them fails. -/
theorem refusal_none_iff {c : Prop} [Decidable c] {code : BitVec 8} {o : Option (BitVec 8)} :
    (if c then some code else o) = none ↔ ¬c ∧ o = none := by
  by_cases hc : c <;> simp [hc]

/-- BUSY_FOR (R177): in a synchronous mode a side is busy with the other. -/
theorem busyFor_tx {s : State} :
    s.busyFor .tx = true ↔ s.sendActive = true ∨ Expected.inSync s = true ∧ s.rxBusy = true := by
  rw [inSync_eq, State.busyFor, State.anyBusy]
  cases s.sync <;> simp

theorem busyFor_rx {s : State} :
    s.busyFor .rx = true ↔ s.rxBusy = true ∨ Expected.inSync s = true ∧ s.sendActive = true := by
  rw [inSync_eq, State.busyFor, State.anyBusy]
  cases s.sync <;> simp [or_comm]

/-- SEND once its checks have passed (R180). -/
theorem execSend_accepted {s : State} (h : Expected.sendRefusal s = none) :
    execSend s =
      if s.sync then
        andThen (armBoth (setupRx .discard 0 s.arg1 { setupTx .buffer s.arg0 s.arg1 s with syncTag := .txOnly })) succeed
      else andThen (armTx (setupTx .buffer s.arg0 s.arg1 s)) succeed := by
  simp only [Expected.sendRefusal, refusal_none_iff] at h
  obtain ⟨harg, hlc, hbusy, -⟩ := h
  rw [execSend, if_neg harg, if_neg hlc, if_neg (mt busyFor_tx.1 hbusy)]

/-- RECEIVE once its checks have passed (R181). -/
theorem execReceive_accepted {s : State} (h : Expected.receiveRefusal s = none) :
    execReceive s =
      if s.sync then
        andThen (armBoth (setupTx .fill 0 s.arg1 { setupRx .buffer s.arg0 s.arg1 s with syncTag := .rxOnly })) succeed
      else andThen (armRx (setupRx .buffer s.arg0 s.arg1 s)) succeed := by
  simp only [Expected.receiveRefusal, refusal_none_iff] at h
  obtain ⟨harg, hlc, hbusy, -⟩ := h
  rw [execReceive, if_neg harg, if_neg hlc, if_neg (mt busyFor_rx.1 hbusy)]

/-- TRANSFER once its checks have passed (R182). -/
theorem execTransfer_accepted {s : State} (h : Expected.transferRefusal s = none) :
    execTransfer s =
      andThen (armBoth { setupTx .buffer s.arg0 s.arg2 (setupRx .buffer s.arg1 s.arg2 s) with syncTag := .txAndRx })
        succeed := by
  simp only [Expected.transferRefusal, refusal_none_iff] at h
  obtain ⟨harg, hlc, hsync, hbusy, -⟩ := h
  rw [inSync_eq] at hsync
  have hidle : ¬s.anyBusy = true := by rwa [State.anyBusy, Bool.or_eq_true]
  rw [execTransfer, if_neg harg, if_neg hlc, if_neg (by simpa using hsync), if_neg hidle]

/-- Settles O26: an accepted start arms its sides, and arming a side that is not admitted does not answer. -/
theorem startNotAdmitted : Obligations.StartNotAdmitted := by
  unfold Obligations.StartNotAdmitted
  refine fun s => ⟨fun hpass hrej => ?_, fun hpass hrej => ?_, fun hpass hrej => ?_⟩
  · show NotAdmitted (execSend s)
    rw [Expected.sendAdmitted, inSync_eq] at hrej
    rw [execSend_accepted hpass]
    split
    · exact (armBoth_notAdmitted fun ⟨hrx, htx⟩ => hrej ⟨fun _ => hrx, htx⟩).andThen
    · rename_i hasync
      exact (armTx_notAdmitted fun htx => hrej ⟨fun hsync => absurd hsync hasync, htx⟩).andThen
  · show NotAdmitted (execReceive s)
    rw [Expected.receiveAdmitted, inSync_eq] at hrej
    rw [execReceive_accepted hpass]
    split
    · exact (armBoth_notAdmitted fun ⟨hrx, htx⟩ => hrej ⟨hrx, fun _ => htx⟩).andThen
    · rename_i hasync
      exact (armRx_notAdmitted fun hrx => hrej ⟨hrx, fun hsync => absurd hsync hasync⟩).andThen
  · show NotAdmitted (execTransfer s)
    rw [execTransfer_accepted hpass]
    exact (armBoth_notAdmitted fun ⟨hrx, htx⟩ => hrej ⟨hrx, htx⟩).andThen

end Sys2Proof.Machine
end

section
/-! What leaves the data memory and the record of unknown bytes alone (spec/20_memory.md R60, R62, R70, R72): every part of an
instruction but the store of a drain, and the OK completion of the engine's RX transfer as far as the record goes. -/

namespace Sys2Proof.Machine

/-- The memory of `t` is that of `s`, and no byte on the record of unknown ones in `s` is known in `t`. -/
def MemKept (s t : State) : Prop :=
  t.mem = s.mem ∧ ∀ a, Expected.onRecord s.unknown a → Expected.onRecord t.unknown a

theorem MemKept.refl (s : State) : MemKept s s := ⟨rfl, fun _ h => h⟩

theorem MemKept.trans {s t u : State} (h : MemKept s t) (h' : MemKept t u) : MemKept s u :=
  ⟨h'.1.trans h.1, fun a ha => h'.2 a (h.2 a ha)⟩

/-- `MemKept` for every next state of a part of a step. -/
def KeepsMemory (s : State) (o : Result) : Prop := ∀ t, o = .next t → MemKept s t

section
variable {s : State}

theorem KeepsMemory.next {t : State} (h : MemKept s t) : KeepsMemory s (.next t) := by
  rintro _ ⟨⟩
  exact h

theorem KeepsMemory.ite {c : Prop} [Decidable c] {o o' : Result} (h : KeepsMemory s o) (h' : KeepsMemory s o') :
    KeepsMemory s (if c then o else o') := by
  split
  · exact h
  · exact h'

theorem KeepsMemory.fail (code : ResultCode) : KeepsMemory s (fail code s) := .next (.refl s)

theorem KeepsMemory.succeed {t : State} (h : MemKept s t) : KeepsMemory s (succeed t) := .next h

theorem KeepsMemory.andThen {o : Result} {f : State → Result} (ho : KeepsMemory s o) (hf : ∀ t, KeepsMemory t (f t)) :
    KeepsMemory s (Machine.andThen o f) := by
  intro u hu
  obtain ⟨t, ht, hu⟩ := andThen_eq_next.1 hu
  exact (ho t ht).trans (hf t u hu)

/-- A dispatch whose case keeps the memory: DELIVER touches the output alone (R229). -/
theorem KeepsMemory.dispatch {o : Answer (State × EventMask)} (h : ∀ r, o = .next r → MemKept s r.1) :
    KeepsMemory s (dispatch o) := by
  intro t ht
  obtain ⟨u, m, ho, rfl⟩ := dispatch_eq_next.1 ht
  rw [deliver_eq]
  exact h _ ho

theorem KeepsMemory.ignored : KeepsMemory s (Machine.dispatch (ignore s)) := by
  rw [dispatch_ignore]
  exact .next (.refl s)

/-- A dispatch that its enable or its channel gates. -/
theorem KeepsMemory.gated {c : Prop} [Decidable c] {o : Answer (State × EventMask)}
    (h : ∀ r, o = .next r → MemKept s r.1) : KeepsMemory s (Machine.dispatch (if c then o else ignore s)) := by
  split
  · exact .dispatch h
  · exact .ignored

end

section
variable (s : State)

@[simp] theorem settleRx_mem : s.settleRx.mem = s.mem := by
  rw [settleRx_eq]

@[simp] theorem complete_mem (side : Side) : (complete side s).1.mem = s.mem := by
  obtain ⟨tag, h⟩ := complete_fst side s
  rw [h]

@[simp] theorem complete_unknown (side : Side) : (complete side s).1.unknown = s.unknown := by
  obtain ⟨tag, h⟩ := complete_fst side s
  rw [h]

theorem complete_kept (side : Side) : MemKept s (complete side s).1 :=
  ⟨complete_mem s side, fun a ha => by rwa [complete_unknown]⟩

theorem abortTx_kept : MemKept s (abortTx s) := by
  rw [abortTx_eq]
  exact .refl s

theorem abortRx_kept : MemKept s (abortRx s) := by
  rw [abortRx_eq]
  exact .refl s

theorem powerDown_kept : MemKept s (powerDown s) := by
  rw [powerDown_eq]
  exact .refl s

theorem dmaProgram_keeps (r : DmaRequest) : KeepsMemory s (dmaProgram r s) := by
  intro t ht
  obtain ⟨-, rfl⟩ := dmaProgram_next ht
  exact .refl s

/-- A byte the block reads may make others unknown, and makes none known (R72, U2). -/
theorem loadByte_kept {a : Addr} {r : Byte × State} (h : loadByte a s = .next r) : MemKept s r.2 := by
  obtain ⟨-, -, d, hr⟩ := loadByte_next h
  rw [hr]
  refine ⟨rfl, fun b hb => ?_⟩
  rw [onRecord_iff] at hb ⊢
  show covered (s.blockTouch a).unknown b = true
  rw [covered_blockTouch, hb, Bool.true_or]

theorem txByte_kept {i : Word} {r : Byte × State} (h : txByte i s = .next r) : MemKept s r.2 := by
  unfold txByte at h
  split at h
  · cases h
    exact .refl s
  · exact loadByte_kept s h

theorem pushChars_keeps (k : Nat) : ∀ (i : Word) (s : State), KeepsMemory s (pushChars k i s) := by
  induction k with
  | zero => exact fun i s => .next (.refl s)
  | succ k ih =>
    intro i s t ht
    obtain ⟨r, hr, ht⟩ := andThen_eq_next.1 ht
    exact (txByte_kept s hr).trans (ih _ (r.2.emit (.thr r.1)) t ht)

theorem armTx_keeps : KeepsMemory s (armTx s) := by
  unfold armTx
  split
  · exact dmaProgram_keeps s _
  · exact .andThen (pushChars_keeps _ _ s) fun t => .next (.refl t)

theorem armRx_keeps : KeepsMemory s (armRx s) := by
  unfold armRx
  split
  · exact dmaProgram_keeps (s.putRlse true) _
  · exact .next (.refl s)

theorem armBoth_keeps : KeepsMemory s (armBoth s) := (armRx_keeps s).andThen armTx_keeps

theorem threCase_kept {r : State × EventMask} (h : threCase s = .next r) : MemKept s r.1 := by
  obtain ⟨t, ht, h⟩ := andThen_eq_next.1 h
  refine (pushChars_keeps _ _ s t ht).trans ?_
  dsimp only at h
  split at h
  · cases h
    exact complete_kept _ .tx
  · cases h
    exact .refl t

end

section
variable {s : State}

theorem execInitialize_keeps : KeepsMemory s (execInitialize s) := by
  refine .ite (.fail _) ?_
  cases s.lc with
  | powered => exact .fail _
  | configured => exact .fail _
  | initialized => exact .succeed (.refl s)
  | unpowered => exact .succeed (.refl s)

theorem execUninitialize_keeps : KeepsMemory s (execUninitialize s) := by
  refine .succeed ?_
  rw [powerDown_eq]
  split <;> exact .refl s

theorem execPowerControl_keeps : KeepsMemory s (execPowerControl s) := by
  unfold execPowerControl
  split
  · exact .fail _
  · exact .fail _
  · exact .ite (.succeed (powerDown_kept s)) (.succeed (.refl s))
  · exact .ite (.fail _) (.ite (.fail _) (.succeed (.refl s)))

theorem commitBaud_keeps (r : SolveResult) : KeepsMemory s (commitBaud r s) := by
  cases r with
  | noDivisor => exact .fail _
  | outOfTolerance => exact .fail _
  | ok m d dv a => exact .succeed (.refl s)

theorem execConfigure_keeps : KeepsMemory s (execConfigure s) := by
  refine .ite (.fail _) ?_
  cases modeOfBits (cfgMode (argCfg s.arg1)) with
  | none => exact .fail _
  | some mode =>
    exact .ite (.fail _) <| .ite (.fail _) <| .ite (.fail _) <| .ite (.fail _) <| .ite (.fail _) <| commitBaud_keeps _

theorem execSend_keeps : KeepsMemory s (execSend s) := by
  refine .ite (.fail _) <| .ite (.fail _) <| .ite (.fail _) <| .ite ?_ ?_
  · exact .andThen (armBoth_keeps (setupRx .discard 0 s.arg1 { setupTx .buffer s.arg0 s.arg1 s with syncTag := .txOnly }))
      fun t => .succeed (.refl t)
  · exact .andThen (armTx_keeps (setupTx .buffer s.arg0 s.arg1 s)) fun t => .succeed (.refl t)

theorem execReceive_keeps : KeepsMemory s (execReceive s) := by
  refine .ite (.fail _) <| .ite (.fail _) <| .ite (.fail _) <| .ite ?_ ?_
  · exact .andThen (armBoth_keeps (setupTx .fill 0 s.arg1 { setupRx .buffer s.arg0 s.arg1 s with syncTag := .rxOnly }))
      fun t => .succeed (.refl t)
  · exact .andThen (armRx_keeps (setupRx .buffer s.arg0 s.arg1 s)) fun t => .succeed (.refl t)

theorem execTransfer_keeps : KeepsMemory s (execTransfer s) :=
  .ite (.fail _) <| .ite (.fail _) <| .ite (.fail _) <| .ite (.fail _) <|
    .andThen
      (armBoth_keeps { setupTx .buffer s.arg0 s.arg2 (setupRx .buffer s.arg1 s.arg2 s) with syncTag := .txAndRx })
      fun t => .succeed (.refl t)

theorem execAbortSend_keeps : KeepsMemory s (execAbortSend s) := by
  refine .succeed ?_
  split
  · exact (abortTx_kept s).trans (abortRx_kept (abortTx s))
  · exact abortTx_kept s

theorem execAbortReceive_keeps : KeepsMemory s (execAbortReceive s) := by
  refine .succeed ?_
  split
  · exact (abortTx_kept s).trans (abortRx_kept (abortTx s))
  · exact abortRx_kept s

end

/-- Every instruction but the drains and the engine's RX OK keeps the memory and the record. -/
theorem exec_keeps {i : Instr} (s : State) (hrda : i ≠ .irqRda) (hcti : i ≠ .irqCti) (hok : i ≠ .dmaRxOk) :
    KeepsMemory s (exec i s) := by
  cases i with
  | initialise => exact execInitialize_keeps
  | uninitialize => exact execUninitialize_keeps
  | powerControl => exact execPowerControl_keeps
  | configure => exact execConfigure_keeps
  | setTxFill => exact .ite (.fail _) (.ite (.fail _) (.succeed (.refl s)))
  | send => exact execSend_keeps
  | receive => exact execReceive_keeps
  | transfer => exact execTransfer_keeps
  | getTxCount | getRxCount | getStatus => exact .succeed (.refl s)
  | abortSend => exact execAbortSend_keeps
  | abortReceive => exact execAbortReceive_keeps
  | abortTransfer => exact .succeed ((abortTx_kept s).trans (abortRx_kept (abortTx s)))
  | irqThre => exact .gated fun _ => threCase_kept s
  | irqRls => exact .gated fun _ h => by cases h; exact .refl s
  | irqMs => exact .gated fun _ h => by cases h; exact .refl s
  | dmaTxOk => exact .gated fun _ h => by cases h; exact complete_kept { s with txCnt := s.txNum, sendActive := false } .tx
  | irqRda => exact absurd rfl hrda
  | irqCti => exact absurd rfl hcti
  | dmaRxOk => exact absurd rfl hok
  | irqNone | irqReserved8 | irqReservedA | irqReservedE | dmaTxError | dmaRxError => exact .ignored

/-- The end of an RX transfer of the engine takes its buffer off the record, and nothing else (R70, U2). -/
theorem onRecord_settleRx {s : State} {a : Addr} (hbusy : s.rxBusy = true) :
    Expected.onRecord s.settleRx.unknown a ↔ Expected.onRecord s.unknown a ∧ ¬Expected.receives s a := by
  rw [onRecord_iff, onRecord_iff, covered_settleRx, receives_iff, State.rxOwns, hbusy, Bool.true_and]
  rw [Bool.and_eq_true, Bool.not_eq_true', Bool.not_eq_true]

/-- The OK completion of the engine's RX transfer keeps the memory and makes its buffer known; where the engine has none
outstanding it is ignored (R232, R234). -/
theorem dmaRxOk_record {s t : State} (h : exec .dmaRxOk s = .next t) :
    t.mem = s.mem ∧ ∀ a, Expected.onRecord t.unknown a ↔
      Expected.onRecord s.unknown a ∧ ¬(s.params.rxDma ≠ none ∧ Expected.receives s a) := by
  obtain ⟨u, m, hu, rfl⟩ := dispatch_eq_next.1 h
  rw [deliver_eq]
  split at hu
  · rename_i hengine
    obtain ⟨hbusy, hchan⟩ : s.rxBusy = true ∧ s.params.rxDma ≠ none := by
      simpa [State.engineBusy, Option.isSome_iff_ne_none] using hengine
    cases congrArg Prod.fst (Host.Outcome.next.inj hu)
    rw [complete_mem, complete_unknown]
    refine ⟨settleRx_mem s, fun a => (onRecord_settleRx hbusy).trans ?_⟩
    simp only [ne_eq, hchan, not_false_eq_true, true_and]
  · rename_i hidle
    cases hu
    refine ⟨rfl, fun a => (and_iff_left ?_).symm⟩
    rintro ⟨hchan, hrx⟩
    exact hidle (by simp [State.engineBusy, hrx.1, Option.isSome_iff_ne_none, hchan])

/-- Settles O45: the engine's RX OK takes its buffer off the record, and every other instruction but the drains keeps both. -/
theorem onlyDrainsWriteMemory : Obligations.OnlyDrainsWriteMemory := by
  unfold Obligations.OnlyDrainsWriteMemory
  intro i s t hrda hcti ht
  by_cases hok : i = .dmaRxOk
  · subst hok
    obtain ⟨hmem, hrecord⟩ := dmaRxOk_record ht
    exact ⟨hmem, fun a ha => by simp only [hrecord, ha, true_and]⟩
  · obtain ⟨hmem, hrecord⟩ := exec_keeps s hrda hcti hok t ht
    exact ⟨hmem, fun a ha => iff_of_true (hrecord a ha) fun h => hok h.1⟩

end Sys2Proof.Machine
end

section
/-! Raced bytes (spec/20_memory.md R72, 93_implementation_defined.md U1, U12; log 9): a write to a byte that the TX transfer owns
puts the old value on record, and the block reads one of the values so gathered. -/

namespace Sys2Proof.Machine

theorem sends_iff {s : State} {a : Addr} : Expected.sends s a ↔ s.txOwns a = true := by
  simp [Expected.sends, State.txOwns, and_assoc]

theorem unknownAt_of_not_onRecord {s : State} {a : Addr} (h : ¬Expected.onRecord s.unknown a) : s.unknownAt a = false := by
  rw [onRecord_iff, Bool.not_eq_true] at h
  rw [State.unknownAt, h, Bool.and_false]

/-- A write to a known byte of the TX buffer, whole (R72). -/
theorem writeByte_raced {s : State} {a : Addr} {v : Byte} (hown : s.txOwns a = true) (hknown : s.unknownAt a = false)
    (hdump : a ≠ s.params.dumpAddr) :
    s.writeByte a v =
      { s with
        stale := (a.toNat, s.readByte a) :: s.stale, unknown := s.unknownBut a, mem := s.mem.write a.toNat v } := by
  simp [State.writeByte, hown, hknown, hdump]

section
variable {s : State} {a : Addr} {v : Byte}

theorem writeByte_params : (s.writeByte a v).params = s.params := by
  obtain ⟨m, old, u, d, hw⟩ := writeByte_eq s a v
  rw [hw]

theorem writeByte_rxOwns (b : Addr) : (s.writeByte a v).rxOwns b = s.rxOwns b := by
  obtain ⟨m, old, u, d, hw⟩ := writeByte_eq s a v
  rw [hw]
  rfl

theorem writeByte_staleAt (hown : s.txOwns a = true) (hknown : s.unknownAt a = false) (hdump : a ≠ s.params.dumpAddr) :
    (s.writeByte a v).staleAt a = s.readByte a :: s.staleAt a := by
  rw [writeByte_raced hown hknown hdump]
  simp [State.staleAt]

/-- What a write stores is what is read, except at the two special addresses (R68, R76). -/
theorem writeByte_readByte (hdump : a ≠ s.params.dumpAddr) (hfill : a ≠ s.params.fillAddr) (hwf : Memory.wf s.mem = true) :
    (s.writeByte a v).readByte a = v := by
  rw [State.readByte, writeByte_params, if_neg hfill, writeByte_mem, if_neg hdump, Memory.read_write hwf, if_pos rfl]

/-- A read of a known byte with candidates `c :: cs` beside the current value picks one of them all by `Config.raceIndex`. -/
theorem loadByte_raced (hadm : s.params.memAdmits .read a = true) (hrx : s.rxOwns a = false)
    (hknown : s.unknownAt a = false) {c : Byte} {cs : List Byte} (hstale : s.staleAt a = c :: cs) :
    loadByte a s = .next
      ((s.readByte a :: s.staleAt a).getD (Config.raceIndex s.draws % (s.staleAt a).length.succ) (s.readByte a),
        { s with out := s.out ++ [.memRead a], draws := s.draws + 1 }) := by
  have htouch : s.blockTouch a = s := by simp [State.blockTouch, State.touchRx, hrx]
  have hpick : pickByte a (s.emit (.memRead a)) =
      ((s.readByte a :: c :: cs).getD (Config.raceIndex s.draws % (cs.length + 2)) c,
        { s.emit (.memRead a) with draws := s.draws + 1 }) := by
    have h1 : (s.emit (.memRead a)).unknownAt a = false := hknown
    have h2 : (s.emit (.memRead a)).staleAt a = c :: cs := hstale
    rw [pickByte, if_neg (by simp [h1]), h2]
    rfl
  have hlt : Config.raceIndex s.draws % (cs.length + 2) < (s.readByte a :: c :: cs).length :=
    Nat.mod_lt _ (Nat.succ_pos _)
  rw [loadByte, if_pos hadm, htouch, hpick, hstale, List.length_cons, List.getD_eq_getElem _ _ hlt,
    List.getD_eq_getElem _ _ hlt]
  rfl

/-- After a write to a known byte of the TX buffer the block reads the value written or one the byte had before. -/
theorem loadByte_writeByte (hadm : s.params.memAdmits .read a = true) (hrx : s.rxOwns a = false) (hown : s.txOwns a = true)
    (hrecord : ¬Expected.onRecord s.unknown a) (hdump : a ≠ s.params.dumpAddr) (hfill : a ≠ s.params.fillAddr)
    (hwf : Memory.wf s.mem = true) :
    ∃ d, loadByte a (s.writeByte a v) = .next
      ((v :: (s.writeByte a v).staleAt a).getD
          (Config.raceIndex (s.writeByte a v).draws % ((s.writeByte a v).staleAt a).length.succ) v,
        { s.writeByte a v with out := (s.writeByte a v).out ++ [.memRead a], draws := d }) := by
  have hknown : (s.writeByte a v).unknownAt a = false :=
    unknownAt_of_not_onRecord fun h => hrecord (onRecord_writeByte.1 h).1
  have hload := loadByte_raced (s := s.writeByte a v) (by rwa [writeByte_params]) ((writeByte_rxOwns a).trans hrx) hknown
    (writeByte_staleAt hown (unknownAt_of_not_onRecord hrecord) hdump)
  rw [writeByte_readByte hdump hfill hwf] at hload
  exact ⟨_, hload⟩

/-- A write to a byte that no RX transfer owns stores the value given, whoever writes (R68, R72). -/
theorem externalWrite_unowned (agent : MemAgent) (hrx : s.rxOwns a = false) :
    externalWrite agent a v s = s.writeByte a v := by
  rw [externalWrite, hrx, Bool.false_and, if_neg Bool.false_ne_true]

end

/-- An RDA dispatch changes, after its drain, only what neither a byte nor its candidates depend on (R224, R228, R229). -/
theorem execIrqRda_next {s s' : State} (hrxe : s.rxe = true) (h : execIrqRda s = .next s') :
    ∃ t, drainChars (s.fifo.take (s.rxNum.toNat - s.rxCnt.toNat)) s = .next t ∧
      ∃ e b tag acts, s' = { t with ier := e, rxBusy := b, syncTag := tag, out := acts } := by
  rw [execIrqRda, if_pos hrxe] at h
  obtain ⟨u, m, hu, rfl⟩ := dispatch_eq_next.1 h
  obtain ⟨t, ht, hu⟩ := andThen_eq_next.1 hu
  refine ⟨t, ht, ?_⟩
  rw [deliver_eq]
  split at hu
  · obtain ⟨tag, hc⟩ := complete_fst .rx { t with ier := ierPut (ierPut t.ier 0 false) 2 false, rxBusy := false }
    have hend : u = _ := (congrArg Prod.fst (Host.Outcome.next.inj hu)).symm.trans hc
    rw [hend]
    exact ⟨_, _, _, _, rfl⟩
  · cases hu
    exact ⟨_, _, _, _, rfl⟩

/-- A drain of one character reads the first of the FIFO input (R224). -/
theorem take_of_drainCount_one {s : State} (h : Expected.drainCount s = 1) :
    s.fifo.take (s.rxNum.toNat - s.rxCnt.toNat) = [s.fifo.getD 0 0] := by
  rw [← drained_length] at h
  obtain ⟨c, hc⟩ := List.length_eq_one_iff.1 h
  obtain ⟨-, hhead⟩ : s.rxNum.toNat - s.rxCnt.toNat ≠ 0 ∧ s.fifo[0]? = some c := by
    simpa [List.head?_take, ← List.head?_eq_getElem?] using congrArg List.head? hc
  rw [hc, List.getD_eq_getElem?_getD, hhead]
  rfl

/-- One drained character is a byte write to the buffer, with the FIFO input, the output and the count changed beside (R224). -/
theorem drainChars_single {c : Byte} {s t : State} (hdst : s.rxDst = .buffer) (h : drainChars [c] s = .next t) :
    ∃ f acts cnt,
      t = { ({ s with fifo := f, out := acts } : State).writeByte (s.rxBuf + s.rxCnt) c with rxCnt := cnt } := by
  obtain ⟨u, hu, ⟨⟩⟩ := andThen_eq_next.1 h
  simp only [drainChar, hdst] at hu
  obtain ⟨-, rfl⟩ := storeByte_next hu
  have hread : s.rxRead.emit (.memWrite (s.rxBuf + s.rxCnt) c) =
      { s with fifo := s.fifo.tail, out := s.out ++ [.rxRead] ++ [.memWrite (s.rxBuf + s.rxCnt) c] } := rfl
  rw [hread]
  exact ⟨_, _, _, rfl⟩

theorem drainAddr_zero (s : State) : Expected.drainAddr s 0 = s.rxBuf + s.rxCnt := by
  rw [Expected.drainAddr, BitVec.add_zero]

/-- Settles O56: the write is a `writeByte` to a byte that the TX transfer owns, whoever makes it. -/
theorem racedByte : Obligations.RacedByte := by
  unfold Obligations.RacedByte
  intro s s' a hsend hrecord hfill hdump hwf
  have hown := sends_iff.1 hsend
  have hknown := unknownAt_of_not_onRecord hrecord
  refine ⟨fun rest agent v hp hrx hstep => ?_, fun hrxe hdst hone ha hexec => ?_⟩
  · rw [receives_iff, Bool.not_eq_true] at hrx
    rw [step_memWrite hp, externalWrite_unowned (s := { s with pending := rest }) agent hrx] at hstep
    cases hstep
    exact ⟨writeByte_staleAt hown hknown hdump, writeByte_readByte hdump hfill hwf,
      fun hadm => loadByte_writeByte hadm hrx hown hrecord hdump hfill hwf⟩
  · rw [drainAddr_zero] at ha
    subst ha
    obtain ⟨t, ht, e, b, tag, acts, rfl⟩ := execIrqRda_next hrxe hexec
    rw [take_of_drainCount_one hone] at ht
    obtain ⟨f, acts', cnt, rfl⟩ := drainChars_single hdst ht
    exact ⟨writeByte_staleAt (s := { s with fifo := f, out := acts' }) hown hknown hdump,
      writeByte_readByte (s := { s with fifo := f, out := acts' }) hdump hfill hwf⟩

end Sys2Proof.Machine
end

section
/-! The encoding (spec/30_encoding.md R85 to R97). A word that decodes is the encoding of what it decodes to, kind of word by kind of
word; the other direction is `Laws.RoundTrip`, instruction by instruction. -/

namespace Sys2Proof.Machine

theorem decode_encode (i : Instr) : decode (encode i) = .ok i := by
  cases i with
  | irqNone id => exact Laws.RoundTrip.irqNone id
  | _ => rfl

/-- Each row of the opcode map (R87) is the low byte of the mnemonic's command word. -/
theorem encode_of_decodeOpcode {opc : BitVec 8} {i : Instr} (h : decodeOpcode opc = .ok i) :
    encode i = .command (0#24 ++ opc) := by
  unfold decodeOpcode at h
  split at h <;> cases h <;> rfl

/-- A word whose RSV is 0 is its opcode (R86). -/
theorem zero_append_opcode {w : Word} (h : w.extractLsb' 8 24 = 0#24) : 0#24 ++ w.extractLsb' 0 8 = w := by
  rw [← h]
  exact (BitVec.extractLsb'_append_extractLsb'_eq_extractLsb' (x := w) (rfl : 8 = 0 + 8)).trans BitVec.extractLsb'_eq_self

theorem encode_of_decodeCommand {w : Word} {i : Instr} (h : decodeCommand w = .ok i) : encode i = .command w := by
  unfold decodeCommand at h
  split at h
  · rename_i hrsv
    rw [encode_of_decodeOpcode h, zero_append_opcode hrsv]
  · cases h

theorem encode_decodeIir : ∀ c : BitVec 4, encode (decodeIir c) = .iir c := by decide

theorem encode_decodeCompletion : ∀ c : BitVec 2, encode (decodeCompletion c) = .completion c := by decide

theorem encode_of_decode {c : CodeWord} {i : Instr} (h : decode c = .ok i) : encode i = c := by
  cases c with
  | command w => exact encode_of_decodeCommand h
  | iir c => cases h; exact encode_decodeIir c
  | completion c => cases h; exact encode_decodeCompletion c

/-- Settles O1: the two directions are `encode_of_decode` and `decode_encode`. -/
theorem decodeEncode : Obligations.DecodeEncode := by
  unfold Obligations.DecodeEncode
  exact fun c i => ⟨encode_of_decode, fun h => h ▸ decode_encode i⟩

/-- Settles O3: each word is the encoding of its command. -/
theorem opcodeMap : Obligations.OpcodeMap := by
  unfold Obligations.OpcodeMap
  exact ⟨decode_encode .initialise, decode_encode .uninitialize, decode_encode .powerControl, decode_encode .configure,
    decode_encode .setTxFill, decode_encode .send, decode_encode .receive, decode_encode .transfer,
    decode_encode .getTxCount, decode_encode .getRxCount, decode_encode .getStatus, decode_encode .abortSend,
    decode_encode .abortReceive, decode_encode .abortTransfer⟩

/-- Settles O4: each code is the encoding of its dispatch. -/
theorem dispatchCodes : Obligations.DispatchCodes := by
  unfold Obligations.DispatchCodes
  exact ⟨fun id => decode_encode (.irqNone id), decode_encode .irqThre, decode_encode .irqRls, decode_encode .irqRda,
    decode_encode .irqCti, decode_encode .irqMs, decode_encode .irqReserved8, decode_encode .irqReservedA,
    decode_encode .irqReservedE, decode_encode .dmaTxOk, decode_encode .dmaRxOk, decode_encode .dmaTxError,
    decode_encode .dmaRxError⟩

/-- RSV is not 0 or OPC is not in the map of R87: the illegal command words (R88). -/
abbrev IllegalWord (w : Word) : Prop :=
  w.extractLsb' 8 24 ≠ 0 ∨ w.extractLsb' 0 8 = 0x00 ∨
    0x06 ≤ (w.extractLsb' 0 8).toNat ∧ (w.extractLsb' 0 8).toNat ≤ 0x0F ∨ 0x19 ≤ (w.extractLsb' 0 8).toNat

/-- No command is encoded in an illegal word: there are fourteen command words, each legal. -/
theorem not_illegalWord_of_encode {i : Instr} {w : Word} (h : encode i = .command w) : ¬IllegalWord w := by
  cases i <;> cases h
  all_goals decide

/-- A host write of an illegal word to CMD carries no instruction. -/
theorem instrOf_illegalWord {w : Word} (h : IllegalWord w) (p : Word) : instrOf (.hostWrite 0x00 4 w p) = none := by
  cases hd : decode (.command w) with
  | ok i => exact absurd h (not_illegalWord_of_encode (encode_of_decode hd))
  | error e => simp [instrOf, hd]

/-- Settles O2: the request is served by `illegalCommand`. -/
theorem illegalCommandWord : Obligations.IllegalCommandWord := by
  unfold Obligations.IllegalCommandWord
  intro s rest w p hp hill
  rw [step_cons hp, instrOf_illegalWord hill]
  rfl

end Sys2Proof.Machine
end

section
/-! Non-interference of the argument registers that an instruction does not read (spec/30_encoding.md R89, R90) and of the bits of
LSR and MSR that none reads (R95, R96). Arguments and inputs are read by the commands' own rules, RLS_CASE and MS_CASE
alone, so overwriting them commutes with every shared operation, and with an instruction if it reads none of what is overwritten. -/

namespace Sys2Proof.Machine

/-- New values for the argument registers and the line and modem inputs; `none` keeps the old one. -/
structure Overwrite where
  arg0 : Option Word
  arg1 : Option Word
  arg2 : Option Word
  lsr : Option Byte
  msr : Option Byte

def State.overwrite (x : Overwrite) (s : State) : State :=
  { s with
    arg0 := x.arg0.getD s.arg0
    arg1 := x.arg1.getD s.arg1
    arg2 := x.arg2.getD s.arg2
    lsr := x.lsr.getD s.lsr
    msr := x.msr.getD s.msr }

/-- The instruction reads nothing that is overwritten: no new value for an argument register it reads (R89), and the same value
of the bits of LSR and MSR that are read (R95, R96). -/
structure Overwrite.Unread (x : Overwrite) (i : Instr) (s : State) : Prop where
  arg0 : (Expected.reads i).1 = true → x.arg0 = none
  arg1 : (Expected.reads i).2.1 = true → x.arg1 = none
  arg2 : (Expected.reads i).2.2 = true → x.arg2 = none
  lsr : (s.overwrite x).lsr.extractLsb' 1 4 = s.lsr.extractLsb' 1 4
  msr : (s.overwrite x).msr.extractLsb' 0 4 = s.msr.extractLsb' 0 4

section
variable (x : Overwrite) (s : State)

/-! The shared operations read no argument and no input. -/

abbrev overwriteSnd {α : Type} (r : α × State) : α × State := (r.1, r.2.overwrite x)

abbrev overwriteFst {α : Type} (r : State × α) : State × α := (r.1.overwrite x, r.2)

@[simp] theorem overwrite_sync : (s.overwrite x).sync = s.sync := rfl
@[simp] theorem overwrite_syncTag : (s.overwrite x).syncTag = s.syncTag := rfl
@[simp] theorem overwrite_anyBusy : (s.overwrite x).anyBusy = s.anyBusy := rfl
@[simp] theorem overwrite_txSrc : (s.overwrite x).txSrc = s.txSrc := rfl
@[simp] theorem overwrite_rxDst : (s.overwrite x).rxDst = s.rxDst := rfl
@[simp] theorem overwrite_lc : (s.overwrite x).lc = s.lc := rfl
@[simp] theorem overwrite_params : (s.overwrite x).params = s.params := rfl
@[simp] theorem overwrite_staleAt (a : Addr) : (s.overwrite x).staleAt a = s.staleAt a := rfl

theorem overwrite_touchRx (a : Addr) : (s.overwrite x).touchRx a = (s.touchRx a).overwrite x :=
  (apply_ite (State.overwrite x) (s.rxOwns a = true) s.spoil s).symm

theorem overwrite_blockTouch (a : Addr) : (s.overwrite x).blockTouch a = (s.blockTouch a).overwrite x := by
  unfold State.blockTouch
  rw [overwrite_touchRx, apply_ite (State.overwrite x)]
  rfl

theorem overwrite_settleRx : (s.overwrite x).settleRx = s.settleRx.overwrite x := by
  unfold State.settleRx
  rw [overwrite_rxDst]
  cases s.rxDst <;> rfl

theorem overwrite_writeByte (a : Addr) (v : Byte) : (s.overwrite x).writeByte a v = (s.writeByte a v).overwrite x := by
  unfold State.writeByte
  rw [apply_ite (State.overwrite x)]
  rfl

theorem overwrite_pickByte (a : Addr) : pickByte a (s.overwrite x) = overwriteSnd x (pickByte a s) := by
  unfold pickByte
  rw [apply_ite (overwriteSnd x), overwrite_staleAt]
  cases s.staleAt a <;> rfl

theorem overwrite_loadByte (a : Addr) : loadByte a (s.overwrite x) = mapNext (overwriteSnd x) (loadByte a s) := by
  refine mapNext_ite ?_ rfl
  rw [overwrite_blockTouch]
  exact congrArg Host.Outcome.next (overwrite_pickByte x ((s.blockTouch a).emit (.memRead a)) a)

theorem overwrite_storeByte (a : Addr) (v : Byte) :
    storeByte a v (s.overwrite x) = mapNext (State.overwrite x) (storeByte a v s) :=
  mapNext_ite (congrArg Host.Outcome.next (overwrite_writeByte x (s.emit (.memWrite a v)) a v)) rfl

theorem overwrite_dmaProgram (r : DmaRequest) :
    dmaProgram r (s.overwrite x) = mapNext (State.overwrite x) (dmaProgram r s) :=
  mapNext_ite rfl rfl

theorem overwrite_complete (side : Side) : complete side (s.overwrite x) = overwriteFst x (complete side s) := by
  unfold complete
  rw [overwrite_sync, overwrite_syncTag, overwrite_anyBusy]
  cases s.sync with
  | false => cases side <;> rfl
  | true => cases s.syncTag <;> cases side <;> cases s.anyBusy <;> rfl

theorem overwrite_dispatch {o o' : Answer (State × EventMask)} (ho : o' = mapNext (overwriteFst x) o) :
    dispatch o' = mapNext (State.overwrite x) (dispatch o) :=
  mapNext_andThen ho fun r => by rw [deliver_eq, deliver_eq]; rfl

theorem overwrite_txByte (i : Word) : txByte i (s.overwrite x) = mapNext (overwriteSnd x) (txByte i s) := by
  unfold txByte
  rw [overwrite_txSrc]
  cases s.txSrc with
  | fill => rfl
  | buffer => exact overwrite_loadByte x s (s.txBuf + i)

theorem overwrite_pushChars (k : Nat) : ∀ (i : Word) (s : State),
    pushChars k i (s.overwrite x) = mapNext (State.overwrite x) (pushChars k i s) := by
  induction k with
  | zero => exact fun i s => rfl
  | succ k ih => exact fun i s => mapNext_andThen (overwrite_txByte x s i) fun r => ih (i + 1) (r.2.emit (.thr r.1))

theorem overwrite_armTx : armTx (s.overwrite x) = mapNext (State.overwrite x) (armTx s) := by
  unfold armTx
  rw [overwrite_params]
  cases s.params.txDma with
  | some ch => exact overwrite_dmaProgram x s (s.txRequest ch)
  | none => exact mapNext_andThen (overwrite_pushChars x _ 0 s) fun t => rfl

theorem overwrite_armRx : armRx (s.overwrite x) = mapNext (State.overwrite x) (armRx s) := by
  unfold armRx
  rw [overwrite_params]
  cases s.params.rxDma with
  | some ch => exact overwrite_dmaProgram x (s.putRlse true) (s.rxRequest ch)
  | none => rfl

theorem overwrite_armBoth : armBoth (s.overwrite x) = mapNext (State.overwrite x) (armBoth s) :=
  mapNext_andThen (overwrite_armRx x s) (overwrite_armTx x)

theorem overwrite_abortTx : abortTx (s.overwrite x) = (abortTx s).overwrite x := by
  rw [abortTx_eq, abortTx_eq]; rfl

theorem overwrite_abortRx : abortRx (s.overwrite x) = (abortRx s).overwrite x := by
  rw [abortRx_eq, abortRx_eq]; rfl

theorem overwrite_drainChar (c : Byte) : drainChar c (s.overwrite x) = mapNext (State.overwrite x) (drainChar c s) := by
  unfold drainChar
  rw [overwrite_rxDst]
  cases s.rxDst with
  | buffer => exact overwrite_storeByte x s.rxRead (s.rxBuf + s.rxCnt) c
  | discard => rfl

theorem overwrite_drainChars (cs : List Byte) : ∀ s : State,
    drainChars cs (s.overwrite x) = mapNext (State.overwrite x) (drainChars cs s) := by
  induction cs with
  | nil => exact fun s => rfl
  | cons c cs ih => exact fun s => mapNext_andThen (overwrite_drainChar x s c) fun t => ih { t with rxCnt := t.rxCnt + 1 }

/-- COMPLETE as the end of a case, which has changed `v`. -/
theorem overwrite_end {v v' : State} (side : Side) (hv : v' = v.overwrite x) :
    (.next (complete side v') : Answer (State × EventMask)) = mapNext (overwriteFst x) (.next (complete side v)) := by
  rw [hv, overwrite_complete, mapNext_next]

theorem overwrite_drain : drain (s.overwrite x) = mapNext (overwriteFst x) (drain s) :=
  mapNext_andThen (overwrite_drainChars x _ s) fun _ => mapNext_ite (overwrite_end x .rx rfl) rfl

theorem overwrite_threCase : threCase (s.overwrite x) = mapNext (overwriteFst x) (threCase s) :=
  mapNext_andThen (overwrite_pushChars x _ _ s) fun _ => mapNext_ite (overwrite_end x .tx rfl) rfl

theorem overwrite_dmaTxDone : dmaTxDone (s.overwrite x) = mapNext (overwriteFst x) (dmaTxDone s) :=
  overwrite_end x .tx rfl

theorem overwrite_dmaRxDone : dmaRxDone (s.overwrite x) = mapNext (overwriteFst x) (dmaRxDone s) := by
  unfold dmaRxDone
  rw [overwrite_settleRx]
  exact overwrite_end x .rx rfl

/-- A start: what is set up, then armed. -/
theorem overwrite_start {arm : State → Result} (harm : ∀ s, arm (s.overwrite x) = mapNext (State.overwrite x) (arm s))
    {v v' : State} (hv : v' = v.overwrite x) :
    andThen (arm v') succeed = mapNext (State.overwrite x) (andThen (arm v) succeed) := by
  subst hv
  exact mapNext_andThen (harm v) fun _ => rfl

/-- A dispatch that its enable or its channel gates. -/
theorem overwrite_gated {c : Prop} [Decidable c] {o o' : Answer (State × EventMask)}
    (ho : o' = mapNext (overwriteFst x) o) :
    dispatch (if c then o' else ignore (s.overwrite x)) =
      mapNext (State.overwrite x) (dispatch (if c then o else ignore s)) :=
  overwrite_dispatch x (mapNext_ite ho rfl)

/-! The commands without arguments. -/

theorem overwrite_execUninitialize :
    execUninitialize (s.overwrite x) = mapNext (State.overwrite x) (execUninitialize s) := by
  unfold execUninitialize
  rw [overwrite_lc, powerDown_eq, powerDown_eq]
  split <;> rfl

theorem overwrite_execAbortSend : execAbortSend (s.overwrite x) = mapNext (State.overwrite x) (execAbortSend s) := by
  unfold execAbortSend
  rw [overwrite_sync, overwrite_abortTx, overwrite_abortRx]
  split <;> rfl

theorem overwrite_execAbortReceive :
    execAbortReceive (s.overwrite x) = mapNext (State.overwrite x) (execAbortReceive s) := by
  unfold execAbortReceive
  rw [overwrite_sync, overwrite_abortTx, ← apply_ite (State.overwrite x), overwrite_abortRx]
  rfl

theorem overwrite_execAbortTransfer :
    execAbortTransfer (s.overwrite x) = mapNext (State.overwrite x) (execAbortTransfer s) := by
  unfold execAbortTransfer
  rw [overwrite_abortTx, overwrite_abortRx]
  rfl

end

/-! The commands with arguments: an argument that is read is kept (`none`). -/

section
variable (s : State) (a0 a1 a2 : Option Word) (l m : Option Byte)

theorem overwrite_execInitialize :
    execInitialize (s.overwrite ⟨none, a1, a2, l, m⟩) =
      mapNext (State.overwrite ⟨none, a1, a2, l, m⟩) (execInitialize s) := by
  refine mapNext_ite rfl ?_
  rw [overwrite_lc]
  cases s.lc <;> rfl

theorem overwrite_execPowerControl :
    execPowerControl (s.overwrite ⟨none, a1, a2, l, m⟩) =
      mapNext (State.overwrite ⟨none, a1, a2, l, m⟩) (execPowerControl s) := by
  unfold execPowerControl
  rw [show (s.overwrite ⟨none, a1, a2, l, m⟩).arg0 = s.arg0 from rfl]
  cases argPowerState s.arg0 with
  | none => rfl
  | some p =>
    cases p with
    | low => rfl
    | off => exact mapNext_ite (by rw [powerDown_eq, powerDown_eq]; rfl) rfl
    | full => exact mapNext_ite rfl (mapNext_ite rfl rfl)

theorem overwrite_commitBaud (r : SolveResult) :
    commitBaud r (s.overwrite ⟨none, none, a2, l, m⟩) =
      mapNext (State.overwrite ⟨none, none, a2, l, m⟩) (commitBaud r s) := by
  cases r <;> rfl

theorem overwrite_execConfigure :
    execConfigure (s.overwrite ⟨none, none, a2, l, m⟩) =
      mapNext (State.overwrite ⟨none, none, a2, l, m⟩) (execConfigure s) := by
  refine mapNext_ite rfl ?_
  rw [show (s.overwrite ⟨none, none, a2, l, m⟩).arg1 = s.arg1 from rfl]
  cases modeOfBits (cfgMode (argCfg s.arg1)) with
  | none => rfl
  | some mode =>
    exact mapNext_ite rfl <| mapNext_ite rfl <| mapNext_ite rfl <| mapNext_ite rfl <| mapNext_ite rfl <|
      overwrite_commitBaud s a2 l m _

theorem overwrite_execSetTxFill :
    execSetTxFill (s.overwrite ⟨none, a1, a2, l, m⟩) =
      mapNext (State.overwrite ⟨none, a1, a2, l, m⟩) (execSetTxFill s) :=
  mapNext_ite rfl (mapNext_ite rfl rfl)

theorem overwrite_execSend :
    execSend (s.overwrite ⟨none, none, a2, l, m⟩) =
      mapNext (State.overwrite ⟨none, none, a2, l, m⟩) (execSend s) :=
  mapNext_ite rfl <| mapNext_ite rfl <| mapNext_ite rfl <|
    mapNext_ite (overwrite_start _ (overwrite_armBoth _) rfl) (overwrite_start _ (overwrite_armTx _) rfl)

theorem overwrite_execReceive :
    execReceive (s.overwrite ⟨none, none, a2, l, m⟩) =
      mapNext (State.overwrite ⟨none, none, a2, l, m⟩) (execReceive s) :=
  mapNext_ite rfl <| mapNext_ite rfl <| mapNext_ite rfl <|
    mapNext_ite (overwrite_start _ (overwrite_armBoth _) rfl) (overwrite_start _ (overwrite_armRx _) rfl)

theorem overwrite_execTransfer :
    execTransfer (s.overwrite ⟨none, none, none, l, m⟩) =
      mapNext (State.overwrite ⟨none, none, none, l, m⟩) (execTransfer s) :=
  mapNext_ite rfl <| mapNext_ite rfl <| mapNext_ite rfl <| mapNext_ite rfl <|
    overwrite_start _ (overwrite_armBoth _) rfl

end

/-! The two dispatches with inputs: the bits that are read are the same. -/

/-- Two words that agree on a bit field agree on each bit of it. -/
theorem getLsbD_eq_of_extractLsb'_eq {n start len k : Nat} {v w : BitVec n}
    (h : v.extractLsb' start len = w.extractLsb' start len) (hk : k < len) : v.getLsbD (start + k) = w.getLsbD (start + k) := by
  have hbit := congrArg (·.getLsbD k) h
  simpa [hk] using hbit

section
variable {x : Overwrite} {s : State}

/-- RLS_CASE reads LSR[4:1] alone (R95). -/
theorem overwrite_rlsCase (h : (s.overwrite x).lsr.extractLsb' 1 4 = s.lsr.extractLsb' 1 4) :
    rlsCase (s.overwrite x) = mapNext (overwriteFst x) (rlsCase s) := by
  have hoe : lsrOverrun (s.overwrite x).lsr = lsrOverrun s.lsr := getLsbD_eq_of_extractLsb'_eq h (k := 0) (by decide)
  have hpe : lsrParity (s.overwrite x).lsr = lsrParity s.lsr := getLsbD_eq_of_extractLsb'_eq h (k := 1) (by decide)
  have hfe : lsrFraming (s.overwrite x).lsr = lsrFraming s.lsr := getLsbD_eq_of_extractLsb'_eq h (k := 2) (by decide)
  have hbi : lsrBreak (s.overwrite x).lsr = lsrBreak s.lsr := getLsbD_eq_of_extractLsb'_eq h (k := 3) (by decide)
  unfold rlsCase rlsMask
  rw [hoe, hpe, hfe, hbi]
  rfl

/-- The events of MS_CASE depend on MSR[3:0] alone (R96). -/
theorem overwrite_msMask (h : (s.overwrite x).msr.extractLsb' 0 4 = s.msr.extractLsb' 0 4) :
    msMask (s.overwrite x) = msMask s := by
  have hcts : msrCts (s.overwrite x).msr = msrCts s.msr := getLsbD_eq_of_extractLsb'_eq h (k := 0) (by decide)
  have hdsr : msrDsr (s.overwrite x).msr = msrDsr s.msr := getLsbD_eq_of_extractLsb'_eq h (k := 1) (by decide)
  have hri : msrRi (s.overwrite x).msr = msrRi s.msr := getLsbD_eq_of_extractLsb'_eq h (k := 2) (by decide)
  have hdcd : msrDcd (s.overwrite x).msr = msrDcd s.msr := getLsbD_eq_of_extractLsb'_eq h (k := 3) (by decide)
  unfold msMask
  rw [hcts, hdsr, hri, hdcd]
  rfl

/-- An instruction has the same outcome, but for what is overwritten, if it reads nothing of that. -/
theorem overwrite_exec {i : Instr} (h : x.Unread i s) :
    exec i (s.overwrite x) = mapNext (State.overwrite x) (exec i s) := by
  obtain ⟨a0, a1, a2, l, m⟩ := x
  obtain ⟨h0, h1, h2, hl, hm⟩ := h
  cases i with
  | initialise => cases h0 rfl; exact overwrite_execInitialize s a1 a2 l m
  | uninitialize => exact overwrite_execUninitialize _ s
  | powerControl => cases h0 rfl; exact overwrite_execPowerControl s a1 a2 l m
  | configure => cases h0 rfl; cases h1 rfl; exact overwrite_execConfigure s a2 l m
  | setTxFill => cases h0 rfl; exact overwrite_execSetTxFill s a1 a2 l m
  | send => cases h0 rfl; cases h1 rfl; exact overwrite_execSend s a2 l m
  | receive => cases h0 rfl; cases h1 rfl; exact overwrite_execReceive s a2 l m
  | transfer => cases h0 rfl; cases h1 rfl; cases h2 rfl; exact overwrite_execTransfer s l m
  | getTxCount | getRxCount | getStatus => rfl
  | abortSend => exact overwrite_execAbortSend _ s
  | abortReceive => exact overwrite_execAbortReceive _ s
  | abortTransfer => exact overwrite_execAbortTransfer _ s
  | irqThre => exact overwrite_gated _ s (overwrite_threCase _ s)
  | irqRls => exact overwrite_gated _ s (overwrite_rlsCase hl)
  | irqRda => exact overwrite_gated _ s (overwrite_drain _ s)
  | irqCti => exact overwrite_gated _ s (mapNext_andThen (overwrite_drain _ s) fun _ => rfl)
  | irqMs => exact overwrite_gated _ s (by rw [overwrite_msMask hm, mapNext_next])
  | dmaTxOk => exact overwrite_gated _ s (overwrite_dmaTxDone _ s)
  | dmaRxOk => exact overwrite_gated _ s (overwrite_dmaRxDone _ s)
  | irqNone | irqReserved8 | irqReservedA | irqReservedE | dmaTxError | dmaRxError =>
    exact overwrite_dispatch _ (o := ignore s) rfl

end

/-- The new values that `Expected.otherArgs` writes: those of the argument registers that `i` does not read. -/
def Overwrite.ofIgnored (i : Instr) (a b c : Word) : Overwrite where
  arg0 := if (Expected.reads i).1 then none else some a
  arg1 := if (Expected.reads i).2.1 then none else some b
  arg2 := if (Expected.reads i).2.2 then none else some c
  lsr := none
  msr := none

theorem otherArgs_eq (i : Instr) (a b c : Word) : Expected.otherArgs i a b c = State.overwrite (.ofIgnored i a b c) := by
  funext s
  cases i <;> rfl

theorem Overwrite.ofIgnored_unread (i : Instr) (a b c : Word) (s : State) : (Overwrite.ofIgnored i a b c).Unread i s :=
  ⟨fun h => if_pos h, fun h => if_pos h, fun h => if_pos h, rfl, rfl⟩

/-- Settles O57: what is overwritten is what the instruction does not read. -/
theorem ignoredArguments : Obligations.IgnoredArguments := by
  unfold Obligations.IgnoredArguments
  intro i s a b c
  rw [onNext_eq, otherArgs_eq]
  exact overwrite_exec (Overwrite.ofIgnored_unread i a b c s)

/-- Settles O59: no argument register is overwritten, and the bits that are read stay. -/
theorem unreadInputBits : Obligations.UnreadInputBits := by
  unfold Obligations.UnreadInputBits
  intro i s l m hl hm
  rw [onNext_eq]
  exact overwrite_exec (x := ⟨none, none, none, some l, some m⟩) ⟨fun _ => rfl, fun _ => rfl, fun _ => rfl, hl, hm⟩

end Sys2Proof.Machine
end

section
/-! The Baud-Rate Solver (spec/40_baud_solver.md R120 to R130). The idea is an invariant of the search: the candidate it holds leads
the pairs already tried, that is, no valid one of them has a smaller error, and none before it an equal one. A pair with no
smaller error cannot take the lead from one before it, and so an exact match leads all the pairs that are still to come. -/

namespace Sys2Proof.Machine

/-! The candidates and their order. -/

theorem mem_solverPairs {m d : Nat} : (m, d) ∈ solverPairs ↔ 1 ≤ m ∧ m ≤ 15 ∧ d < m := by
  refine ⟨solverPairs_range, fun ⟨hm, hm', hd⟩ => ?_⟩
  simp only [solverPairs, List.mem_flatMap, List.mem_map, List.mem_range, Prod.mk.injEq]
  exact ⟨m - 1, by omega, d, by omega, by omega, rfl⟩

/-- m ascends, and d ascends for each m (R121). -/
theorem solverPairs_pairwise : solverPairs.Pairwise fun p q => Expected.before p.1 p.2 q.1 q.2 := by
  refine List.pairwise_flatMap.2 ⟨fun k _ => ?_, ?_⟩
  · exact List.pairwise_map.2 (List.pairwise_lt_range.imp fun hd => .inr ⟨rfl, hd⟩)
  · refine List.pairwise_lt_range.imp fun hk p hp q hq => ?_
    obtain ⟨_, -, rfl⟩ := List.mem_map.1 hp
    obtain ⟨_, -, rfl⟩ := List.mem_map.1 hq
    exact .inl (Nat.succ_lt_succ hk)

theorem before_asymm {m d m' d' : Nat} (h : Expected.before m d m' d') : ¬Expected.before m' d' m d := by
  unfold Expected.before at *
  omega

theorem before_trichotomy (m d m' d' : Nat) :
    Expected.before m d m' d' ∨ (m = m' ∧ d = d') ∨ Expected.before m' d' m d := by
  unfold Expected.before
  omega

/-- Settles O12. -/
theorem solverCandidates : Obligations.SolverCandidates := by
  unfold Obligations.SolverCandidates
  exact ⟨fun _ _ => mem_solverPairs, rfl, solverPairs_pairwise⟩

/-! The divisor and the error of a candidate. -/

/-- Rounding up above one half, and down from one half on (R123). -/
theorem solverDivisor_error_cases (f b m d : Nat) :
    2 ^ 31 < solverQuotient f b m d % 2 ^ 32 ∧ solverDivisor f b m d = solverQuotient f b m d / 2 ^ 32 + 1 ∧
      solverError f b m d = 2 ^ 32 - solverQuotient f b m d % 2 ^ 32 ∨
    solverQuotient f b m d % 2 ^ 32 ≤ 2 ^ 31 ∧ solverDivisor f b m d = solverQuotient f b m d / 2 ^ 32 ∧
      solverError f b m d = solverQuotient f b m d % 2 ^ 32 := by
  unfold solverDivisor solverError
  by_cases h : solverQuotient f b m d % 2 ^ 32 > 2 ^ 31
  · exact .inl ⟨h, if_pos h, if_pos h⟩
  · exact .inr ⟨Nat.le_of_not_lt h, if_neg h, if_neg h⟩

/-- Settles O13, rounding up and rounding down. -/
theorem solverRounding : Obligations.SolverRounding := by
  unfold Obligations.SolverRounding
  intro f b m d _ _
  refine ⟨rfl, ?_⟩
  obtain ⟨hfr, hdv, herr⟩ | ⟨hfr, hdv, herr⟩ := solverDivisor_error_cases f b m d
  · rw [hdv, herr]
    omega
  · rw [hdv, herr]
    omega

/-- A clock of 0 has the divisor 0 (R123). -/
theorem solverDivisor_zero (b m d : Nat) : solverDivisor 0 b m d = 0 := by
  simp [solverDivisor, solverQuotient]

theorem solverValid_iff {f b m d : Nat} :
    solverValid f b m d = true ↔ 1 ≤ solverDivisor f b m d ∧ solverDivisor f b m d ≤ 65536 := by
  simp only [solverValid, Bool.and_eq_true, decide_eq_true_eq]

theorem candidate_iff {f b m d : Nat} :
    Expected.candidate f b m d ↔ (m, d) ∈ solverPairs ∧ solverValid f b m d = true := by
  rw [mem_solverPairs, solverValid_iff]
  simp only [Expected.candidate, and_assoc]

/-! The search. -/

/-- (m, d) is a valid pair of `ps`, no valid one of `ps` has a smaller error, and none before it an equal one. -/
def Leads (f b : Nat) (ps : List (Nat × Nat)) (m d : Nat) : Prop :=
  ((m, d) ∈ ps ∧ solverValid f b m d = true) ∧
    ∀ m' d', (m', d') ∈ ps ∧ solverValid f b m' d' = true →
      solverError f b m d ≤ solverError f b m' d' ∧
        (Expected.before m' d' m d → solverError f b m d < solverError f b m' d')

/-- What the search keeps for a pair (R124). -/
def keptFor (f b m d : Nat) : Candidate := ⟨m, d, solverDivisor f b m d, solverError f b m d⟩

/-- The invariant of the search: what it holds, once it has tried the pairs `ps`. -/
inductive Holds (f b : Nat) (ps : List (Nat × Nat)) : Option Candidate → Prop
  | none (h : ∀ m d, (m, d) ∈ ps → ¬solverValid f b m d = true) : Holds f b ps none
  | some {m d : Nat} (h : Leads f b ps m d) : Holds f b ps (some (keptFor f b m d))

section
variable {f b m d : Nat} {ps qs : List (Nat × Nat)} {best : Option Candidate}

/-- The leader over all the candidates is the winner of R124. -/
theorem leads_solverPairs : Leads f b solverPairs m d ↔ Expected.winner f b m d := by
  unfold Leads Expected.winner
  simp only [candidate_iff]

/-- Later pairs take the lead by a smaller error alone. -/
theorem Leads.append (h : Leads f b ps m d) (hlater : ∀ q ∈ qs, Expected.before m d q.1 q.2)
    (hle : ∀ m' d', (m', d') ∈ qs → solverValid f b m' d' = true → solverError f b m d ≤ solverError f b m' d') :
    Leads f b (ps ++ qs) m d := by
  obtain ⟨⟨hmem, hv⟩, hleast⟩ := h
  refine ⟨⟨List.mem_append_left _ hmem, hv⟩, fun m' d' ⟨hmem', hv'⟩ => ?_⟩
  obtain hps | hqs := List.mem_append.1 hmem'
  · exact hleast m' d' ⟨hps, hv'⟩
  · exact ⟨hle m' d' hqs hv', fun hbefore => absurd hbefore (before_asymm (hlater _ hqs))⟩

/-- An exact match leads all the pairs to come. -/
theorem Leads.append_of_exact (h : Leads f b ps m d) (hlater : ∀ q ∈ qs, Expected.before m d q.1 q.2)
    (hexact : solverError f b m d = 0) : Leads f b (ps ++ qs) m d :=
  h.append hlater fun _ _ _ _ => hexact.trans_le (Nat.zero_le _)

/-- A valid pair that improves on what the search holds takes the lead. -/
theorem Holds.leads_of_improves (h : Holds f b ps best) (hv : solverValid f b m d = true)
    (himp : improves (solverError f b m d) best = true) : Leads f b (ps ++ [(m, d)]) m d := by
  refine ⟨⟨by simp, hv⟩, fun m' d' ⟨hmem', hv'⟩ => ?_⟩
  obtain hps | hlast := List.mem_append.1 hmem'
  · have hlt : solverError f b m d < solverError f b m' d' := by
      cases h with
      | none hnone => exact absurd hv' (hnone m' d' hps)
      | some hleads =>
        obtain ⟨-, hleast⟩ := hleads
        obtain ⟨hle, -⟩ := hleast m' d' ⟨hps, hv'⟩
        exact Nat.lt_of_lt_of_le (of_decide_eq_true himp) hle
    exact ⟨hlt.le, fun _ => hlt⟩
  · obtain ⟨rfl, rfl⟩ := Prod.mk.inj (List.mem_singleton.1 hlast)
    exact ⟨le_rfl, fun hbefore => absurd hbefore (before_asymm hbefore)⟩

/-- A pair that is not valid or does not improve leaves what the search holds. -/
theorem Holds.append_of_not_improves (h : Holds f b ps best) (hlater : ∀ p ∈ ps, Expected.before p.1 p.2 m d)
    (hskip : ¬(solverValid f b m d && improves (solverError f b m d) best) = true) :
    Holds f b (ps ++ [(m, d)]) best := by
  rw [Bool.and_eq_true, not_and] at hskip
  cases h with
  | none hnone =>
    refine .none fun m' d' hmem' => ?_
    obtain hps | hlast := List.mem_append.1 hmem'
    · exact hnone m' d' hps
    · obtain ⟨rfl, rfl⟩ := Prod.mk.inj (List.mem_singleton.1 hlast)
      exact fun hv => hskip hv rfl
  | some hleads =>
    refine .some (hleads.append (fun q hq => ?_) fun m' d' hlast hv' => ?_)
    · obtain rfl := List.mem_singleton.1 hq
      obtain ⟨⟨hmem, -⟩, -⟩ := hleads
      exact hlater _ hmem
    · obtain ⟨rfl, rfl⟩ := Prod.mk.inj (List.mem_singleton.1 hlast)
      exact Nat.le_of_not_lt fun hlt => hskip hv' (decide_eq_true hlt)

end

/-- The search keeps its invariant over the pairs still to try, if they rise with those already tried. -/
theorem solverSearch_holds {f b : Nat} : ∀ {qs ps : List (Nat × Nat)} {best : Option Candidate},
    (ps ++ qs).Pairwise (fun p q => Expected.before p.1 p.2 q.1 q.2) → Holds f b ps best →
    Holds f b (ps ++ qs) (solverSearch f b qs best) := by
  intro qs
  induction qs with
  | nil =>
    intro ps best _ h
    rwa [List.append_nil]
  | cons q qs ih =>
    intro ps best hrise h
    obtain ⟨m, d⟩ := q
    obtain ⟨-, hqs, hps⟩ := List.pairwise_append.1 hrise
    rw [List.append_cons] at hrise ⊢
    unfold solverSearch
    split
    · rename_i htake
      obtain ⟨hv, himp⟩ := Bool.and_eq_true_iff.1 htake
      have hleads := h.leads_of_improves hv himp
      split
      · rename_i hexact
        exact .some (hleads.append_of_exact (fun _ => List.rel_of_pairwise_cons hqs) hexact)
      · exact ih hrise (.some hleads)
    · rename_i hskip
      exact ih hrise (h.append_of_not_improves (fun p hp => hps p hp _ List.mem_cons_self) hskip)

/-! SOLVE's answer. -/

theorem absDiff_eq_natAbs (x y : Nat) : absDiff x y = ((x : Int) - y).natAbs := by
  unfold absDiff
  omega

/-- What the search keeps for a pair is judged by its achieved rate (R126, R127). -/
theorem judge_keptFor (tol f b m d : Nat) :
    Expected.outside tol f b m d ∧ judge tol f b (some (keptFor f b m d)) = .outOfTolerance ∨
    ¬Expected.outside tol f b m d ∧
      judge tol f b (some (keptFor f b m d)) = .ok m d (solverDivisor f b m d) (Expected.achieved f b m d) := by
  simp only [judge, absDiff_eq_natAbs]
  by_cases h : Expected.outside tol f b m d
  · exact .inl ⟨h, if_pos h⟩
  · exact .inr ⟨h, if_neg h⟩

/-- How SOLVE ends (R125 to R127). -/
theorem solve_cases (tol f b : Nat) :
    (∀ m d, ¬Expected.candidate f b m d) ∧ solve tol f b = .noDivisor ∨
    ∃ m d, Expected.winner f b m d ∧
      (Expected.outside tol f b m d ∧ solve tol f b = .outOfTolerance ∨
        ¬Expected.outside tol f b m d ∧
          solve tol f b = .ok m d (solverDivisor f b m d) (Expected.achieved f b m d)) := by
  have hsearch : Holds f b solverPairs (solverSearch f b solverPairs none) :=
    solverSearch_holds (ps := []) solverPairs_pairwise (.none fun _ _ h => absurd h List.not_mem_nil)
  unfold solve
  generalize solverSearch f b solverPairs none = best at hsearch
  cases hsearch with
  | none hnone => exact .inl ⟨fun m d h => (candidate_iff.1 h).elim (hnone m d), rfl⟩
  | some hleads => exact .inr ⟨_, _, leads_solverPairs.1 hleads, judge_keptFor ..⟩

/-- Of two winners the later one would have the smaller error. -/
theorem winner_unique {f b m d m' d' : Nat} (h : Expected.winner f b m d) (h' : Expected.winner f b m' d') :
    m = m' ∧ d = d' := by
  obtain ⟨hc, hleast⟩ := h
  obtain ⟨hc', hleast'⟩ := h'
  obtain hbefore | heq | hbefore := before_trichotomy m d m' d'
  · exact absurd (hleast m' d' hc').1 (Nat.not_le_of_lt ((hleast' m d hc).2 hbefore))
  · exact heq
  · exact absurd (hleast' m d hc).1 (Nat.not_le_of_lt ((hleast m' d' hc').2 hbefore))

theorem solve_noDivisor_iff {tol f b : Nat} : solve tol f b = .noDivisor ↔ ∀ m d, ¬Expected.candidate f b m d := by
  obtain ⟨hnone, heq⟩ | ⟨m, d, hwin, ⟨-, heq⟩ | ⟨-, heq⟩⟩ := solve_cases tol f b
  · exact iff_of_true heq hnone
  all_goals exact iff_of_false (by simp [heq]) fun hnone => hnone m d hwin.1

theorem solve_outOfTolerance_iff {tol f b : Nat} :
    solve tol f b = .outOfTolerance ↔ ∃ m d, Expected.winner f b m d ∧ Expected.outside tol f b m d := by
  obtain ⟨hnone, heq⟩ | ⟨m, d, hwin, ⟨hout, heq⟩ | ⟨hin, heq⟩⟩ := solve_cases tol f b
  · exact iff_of_false (by simp [heq]) fun ⟨m, d, hwin, _⟩ => hnone m d hwin.1
  · exact iff_of_true heq ⟨m, d, hwin, hout⟩
  · refine iff_of_false (by simp [heq]) fun ⟨m', d', hwin', hout⟩ => ?_
    obtain ⟨rfl, rfl⟩ := winner_unique hwin hwin'
    exact hin hout

theorem solve_ok_iff {tol f b m d dv a : Nat} :
    solve tol f b = .ok m d dv a ↔
      Expected.winner f b m d ∧ ¬Expected.outside tol f b m d ∧ dv = solverDivisor f b m d ∧
        a = Expected.achieved f b m d := by
  obtain ⟨hnone, heq⟩ | ⟨m', d', hwin', ⟨hout, heq⟩ | ⟨hin, heq⟩⟩ := solve_cases tol f b
  · exact iff_of_false (by simp [heq]) fun ⟨hwin, _⟩ => hnone m d hwin.1
  · refine iff_of_false (by simp [heq]) fun ⟨hwin, hin, _⟩ => ?_
    obtain ⟨rfl, rfl⟩ := winner_unique hwin hwin'
    exact hin hout
  · rw [heq, SolveResult.ok.injEq]
    constructor
    · rintro ⟨rfl, rfl, rfl, rfl⟩
      exact ⟨hwin', hin, rfl, rfl⟩
    · rintro ⟨hwin, -, rfl, rfl⟩
      obtain ⟨rfl, rfl⟩ := winner_unique hwin hwin'
      exact ⟨rfl, rfl, rfl, rfl⟩

/-- Settles O14: the three ends of SOLVE. -/
theorem solverMeetsRules : Obligations.SolverMeetsRules := by
  unfold Obligations.SolverMeetsRules
  exact fun _ _ _ _ => ⟨solve_noDivisor_iff, solve_outOfTolerance_iff, fun _ _ _ _ => solve_ok_iff⟩

/-- Settles O15: the winner is a candidate within the tolerance. -/
theorem solverBounds : Obligations.SolverBounds := by
  unfold Obligations.SolverBounds
  intro tol f b m d dv a h
  obtain ⟨⟨⟨hm, hm', hd, hdv, hdv'⟩, -⟩, hin, rfl, rfl⟩ := solve_ok_iff.1 h
  exact ⟨hm, hm', Nat.zero_le _, hd, hdv, hdv', Nat.le_of_not_lt hin⟩

/-- A candidate's achieved rate is at most F / 16, since m / (dv * (m + d)) ≤ 1 (R126). -/
theorem achieved_le {f b m d : Nat} (h : Expected.candidate f b m d) : Expected.achieved f b m d ≤ f / 16 := by
  obtain ⟨hm, -, -, hdv, -⟩ := h
  have hden : 16 * m ≤ 16 * solverDivisor f b m d * (m + d) :=
    Nat.mul_le_mul (Nat.le_mul_of_pos_right _ hdv) (Nat.le_add_right _ _)
  calc Expected.achieved f b m d ≤ f * m / (16 * m) := Nat.div_le_div_left hden (by omega)
    _ = f / 16 := Nat.mul_div_mul_right _ _ hm

theorem not_candidate_zero (b m d : Nat) : ¬Expected.candidate 0 b m d := by
  rintro ⟨-, -, -, hdv, -⟩
  rw [solverDivisor_zero] at hdv
  exact absurd hdv (by decide)

/-- Settles O16. -/
theorem achievedRateFits : Obligations.AchievedRateFits := by
  unfold Obligations.AchievedRateFits
  intro tol f b hf _
  refine ⟨fun m d dv a h => ?_, fun hzero => ?_⟩
  · obtain ⟨⟨hc, -⟩, -, -, rfl⟩ := solve_ok_iff.1 h
    have hle := achieved_le hc
    omega
  · subst hzero
    exact solve_noDivisor_iff.2 (not_candidate_zero b)

/-- Settles O17. -/
theorem solverWorkedExample : Obligations.SolverWorkedExample := by
  unfold Obligations.SolverWorkedExample
  decide +kernel

end Sys2Proof.Machine
end

section
/-! The boundary commands (spec/41_lifecycle.md R140 to R147). The statements give the operand checks as bounds on numbers, the
model as reserved bits that must be 0; with the checks matched, a command and its expected outcome branch alike. LC then
follows: the boundary commands give their next state whole, and nothing else writes the registers that are theirs. -/

namespace Sys2Proof.Machine

/-! The terms of the statements, in the model's. -/

theorem powered_eq (s : State) : Expected.powered s = s.lc.isPowered := by
  unfold Expected.powered
  cases s.lc <;> rfl

/-- What ABORT_TX emits (42_transfer.md R175). -/
theorem stopTx_eq (s : State) :
    Expected.stopTx s = stopActions s.sendActive s.params.txDma s.lc.isPowered .tx := by
  rw [Expected.stopTx, powered_eq]
  cases s.sendActive <;> cases s.params.txDma <;> rfl

/-- What ABORT_RX emits (R176). -/
theorem stopRx_eq (s : State) :
    Expected.stopRx s = stopActions s.rxBusy s.params.rxDma s.lc.isPowered .rx := by
  rw [Expected.stopRx, powered_eq]
  cases s.rxBusy <;> cases s.params.rxDma <;> rfl

/-- POWER_DOWN, whole (R143). -/
theorem powerDown_eq_stopped (s : State) :
    powerDown s = { s with
      ier := 0, sendActive := false, rxBusy := false, syncTag := .none
      out := s.out ++ Expected.stopTx s ++ Expected.stopRx s } := by
  rw [powerDown_eq, stopTx_eq, stopRx_eq]

/-! The operands (30_encoding.md R89, R90). -/

/-- Some reserved bit from bit `n` up is set exactly if the word is not below `2 ^ n`. -/
theorem reserved_iff {w : Word} {n m : Nat} (h : n + m = 32) : (!(w.extractLsb' n m == 0)) = true ↔ 2 ^ n ≤ w.toNat := by
  have hlt : w.toNat / 2 ^ n < 2 ^ m := by
    rw [Nat.div_lt_iff_lt_mul (Nat.two_pow_pos n), ← Nat.pow_add, Nat.add_comm, h]
    exact w.isLt
  have hzero : w.extractLsb' n m = 0 ↔ w.toNat < 2 ^ n := by
    rw [← BitVec.toNat_inj, BitVec.extractLsb'_toNat, Nat.shiftRight_eq_div_pow, Nat.mod_eq_of_lt hlt]
    exact Nat.div_eq_zero_iff_lt (Nat.two_pow_pos n)
  rw [Bool.not_eq_true', beq_eq_false_iff_ne, ne_eq, hzero, not_lt]

/-- ARG0[0] of a well-formed INITIALIZE operand is its whole value. -/
theorem argCb_eq {a : Word} (h : a.toNat < 2) : argCb a = decide (a = 1) := by
  obtain rfl | rfl : a = 0 ∨ a = 1 := by bv_omega
  · rfl
  · rfl

/-- The fields of CONFIGURE's word are those of ARG1 (R28, R89). -/
theorem cfgMode_argCfg (a : Word) : cfgMode (argCfg a) = a.extractLsb' 0 3 :=
  BitVec.extractLsb'_extractLsb'_of_le (by decide)

theorem cfgPar_argCfg (a : Word) : cfgPar (argCfg a) = a.extractLsb' 5 2 :=
  BitVec.extractLsb'_extractLsb'_of_le (by decide)

theorem cfgCpol_argCfg (a : Word) : cfgCpol (argCfg a) = a.getLsbD 8 := BitVec.getLsbD_extractLsb' ..

theorem cfgCpha_argCfg (a : Word) : cfgCpha (argCfg a) = a.getLsbD 9 := BitVec.getLsbD_extractLsb' ..

/-- A line bit of CONFIGURE's word is reserved (R90, R144). -/
theorem argLine_reserved_iff (a : Word) :
    (!argLineWellFormed a) = true ↔ 2 ^ 10 ≤ a.toNat ∨ a.extractLsb' 5 2 = 3 := by
  rw [argLineWellFormed, Bool.not_and, Bool.or_eq_true, reserved_iff rfl, cfgPar_argCfg]
  simp

/-- POWER_CONTROL's operand by its value (R90). -/
theorem execPowerControl_ite (s : State) :
    execPowerControl s =
      if 3 ≤ s.arg0.toNat then fail .invalidParameter s
      else if s.arg0 = 1 then fail .unsupportedCapability s
      else if s.arg0 = 0 then powerOff s
      else powerFull s := by
  unfold execPowerControl argPowerState
  obtain h | h | h | h : s.arg0 = 0 ∨ s.arg0 = 1 ∨ s.arg0 = 2 ∨ 3 ≤ s.arg0.toNat := by bv_omega
  · rw [h]; rfl
  · rw [h]; rfl
  · rw [h]; rfl
  · rw [if_pos h, if_neg (by bv_omega), if_neg (by bv_omega), if_neg (by bv_omega)]

/-- MODE's reserved values (R28). -/
theorem modeOfBits_none_iff : ∀ b : BitVec 3, modeOfBits b = none ↔ 6 ≤ b.toNat := by decide

/-- MODE_CAP (R144). -/
theorem modeCap_eq {b : BitVec 3} {m : Mode} (cap : Cap) (h : modeOfBits b = some m) :
    Expected.modeCap cap b = modeCap cap m := by
  unfold modeOfBits at h
  split at h <;> cases h <;> simp [Expected.modeCap, modeCap]

/-! The commands. -/

/-- A check of the model and of the statement that come to the same. -/
theorem ite_eq_next {c c' : Prop} [Decidable c] [Decidable c'] {o o' : Result} {t t' : State} (hc : c ↔ c')
    (h : c' → o = .next t) (h' : ¬c' → o' = .next t') : (if c then o else o') = .next (if c' then t else t') := by
  by_cases hc' : c'
  · rw [if_pos (hc.2 hc'), if_pos hc', h hc']
  · rw [if_neg (mt hc.1 hc'), if_neg hc', h' hc']

section
variable (s : State)

/-- INITIALIZE (R141). -/
theorem execInitialize_eq : execInitialize s = .next (Expected.afterInitialise s) := by
  refine ite_eq_next (reserved_iff rfl) (fun _ => rfl) fun hcb => ?_
  split
  next hlc => rw [if_pos (.inl hlc)]; rfl
  next hlc => rw [if_pos (.inr hlc)]; rfl
  next hlc => rw [if_neg (by simp [hlc]), if_pos hlc]; rfl
  next hlc =>
    rw [if_neg (by simp [hlc]), if_neg (by simp [hlc]), argCb_eq (Nat.lt_of_not_le hcb)]
    rfl

/-- UNINITIALIZE (R142). -/
theorem execUninitialize_eq : execUninitialize s = .next (Expected.afterUninitialize s) := by
  rw [execUninitialize, Expected.afterUninitialize, ← powered_eq]
  split
  · rw [powerDown_eq_stopped]; rfl
  · rfl

/-- POWER_CONTROL (R143): OFF, then FULL. -/
theorem execPowerControl_eq : execPowerControl s = .next (Expected.afterPowerControl s) := by
  rw [execPowerControl_ite]
  refine ite_eq_next .rfl (fun _ => rfl) fun _ => ite_eq_next .rfl (fun _ => rfl) fun _ =>
    ite_eq_next .rfl (fun _ => ?_) fun _ => ?_
  · exact ite_eq_next (by rw [powered_eq]) (fun _ => by rw [powerDown_eq_stopped]; rfl) fun _ => rfl
  · refine ite_eq_next .rfl (fun _ => rfl) fun _ => ?_
    refine ite_eq_next (by rw [State.anyBusy, Bool.or_eq_true]) (fun _ => rfl) fun _ => ?_
    have hmodem : s.params.hasModem = true ↔
        s.params.cap.cts ∨ s.params.cap.dsr ∨ s.params.cap.dcd ∨ s.params.cap.ri := by
      simp [Params.hasModem, or_assoc]
    simp only [hmodem]
    rfl

/-- CONFIGURE (R144), check by check. -/
theorem execConfigure_eq : execConfigure s = .next (Expected.afterConfigure s) := by
  refine ite_eq_next (by simp [powered_eq]) (fun _ => rfl) fun _ => ?_
  rw [cfgMode_argCfg]
  cases hmode : modeOfBits (s.arg1.extractLsb' 0 3) with
  | none => rw [if_pos ((modeOfBits_none_iff _).1 hmode)]; rfl
  | some mode =>
    rw [if_neg (mt (modeOfBits_none_iff _).2 (by simp [hmode])), modeCap_eq s.params.cap hmode]
    refine ite_eq_next (by simp) (fun _ => rfl) fun _ => ?_
    refine ite_eq_next (by simp [State.anyBusy]) (fun _ => rfl) fun _ => ?_
    refine ite_eq_next (argLine_reserved_iff s.arg1) (fun _ => rfl) fun _ => ?_
    refine ite_eq_next ?_ (fun _ => rfl) fun _ => ?_
    · rw [modeIsSync_of_bits hmode, cfgMode_argCfg, cfgCpol_argCfg, cfgCpha_argCfg]
      simp
    refine ite_eq_next .rfl (fun _ => rfl) fun _ => ?_
    unfold configureBaud
    cases solve s.params.tolPct s.pclk.toNat s.arg0.toNat <;> rfl

/-- SET_TX_FILL (R145). -/
theorem execSetTxFill_eq : execSetTxFill s = .next (Expected.afterSetTxFill s) :=
  ite_eq_next (by simp [powered_eq]) (fun _ => rfl) fun _ => ite_eq_next (reserved_iff rfl) (fun _ => rfl) fun _ => rfl

end

/-- Settles O18: the command branches as the statement does. -/
theorem initialiseEffect : Obligations.InitialiseEffect := execInitialize_eq

/-- Settles O19: POWER_DOWN stops TX, then RX. -/
theorem uninitializeEffect : Obligations.UninitializeEffect := execUninitialize_eq

/-- Settles O20: the operand is one of its three values or reserved. -/
theorem powerControlEffect : Obligations.PowerControlEffect := execPowerControl_eq

/-- Settles O21: the checks in their order, then the solver's answer. -/
theorem configureEffect : Obligations.ConfigureEffect := execConfigure_eq

/-- Settles O22. -/
theorem setTxFillEffect : Obligations.SetTxFillEffect := execSetTxFill_eq

end Sys2Proof.Machine
end

section
/-! The lifecycle (spec/41_lifecycle.md R147). The boundary commands that change LC give their next state whole; every other
instruction keeps LC, and with it the other registers of the configuration. -/

namespace Sys2Proof.Machine

/-- LC, and the other registers that no instruction writes but INITIALIZE, UNINITIALIZE, POWER_CONTROL and CONFIGURE (R140 to
R144). -/
def State.boundary (s : State) :
    Lifecycle × Bool × BitVec 10 × BitVec 17 × BitVec 4 × BitVec 4 × Word :=
  (s.lc, s.cbReg, s.cfg, s.div, s.mulval, s.divaddval, s.baud)

/-- Every next state of a part of a step has the boundary registers of `s`. -/
def KeepsBoundary (s : State) (o : Result) : Prop := ∀ t, o = .next t → t.boundary = s.boundary

section
variable {s : State}

theorem KeepsBoundary.next {t : State} (h : t.boundary = s.boundary) : KeepsBoundary s (.next t) := by
  rintro _ ⟨⟩
  exact h

theorem KeepsBoundary.ite {c : Prop} [Decidable c] {o o' : Result} (h : KeepsBoundary s o) (h' : KeepsBoundary s o') :
    KeepsBoundary s (if c then o else o') := by
  split
  · exact h
  · exact h'

theorem KeepsBoundary.fail (code : ResultCode) : KeepsBoundary s (fail code s) := .next rfl

theorem KeepsBoundary.succeed {t : State} (h : t.boundary = s.boundary) : KeepsBoundary s (succeed t) := .next h

theorem KeepsBoundary.andThen {o : Result} {f : State → Result} (ho : KeepsBoundary s o)
    (hf : ∀ t, KeepsBoundary t (f t)) : KeepsBoundary s (Machine.andThen o f) := by
  intro u hu
  obtain ⟨t, ht, hu⟩ := andThen_eq_next.1 hu
  exact (hf t u hu).trans (ho t ht)

/-- A dispatch that its enable or its channel gates: DELIVER touches the output alone (43_dispatcher.md R229). -/
theorem KeepsBoundary.gated {c : Prop} [Decidable c] {o : Answer (State × EventMask)}
    (h : ∀ r, o = .next r → r.1.boundary = s.boundary) :
    KeepsBoundary s (dispatch (if c then o else ignore s)) := by
  split
  · intro t ht
    obtain ⟨u, m, ho, rfl⟩ := dispatch_eq_next.1 ht
    rw [deliver_eq]
    exact h _ ho
  · rw [dispatch_ignore]
    exact .next rfl

end

section
variable (s : State)

theorem complete_boundary (side : Side) : (complete side s).1.boundary = s.boundary := by
  obtain ⟨tag, h⟩ := complete_fst side s
  rw [h]
  rfl

theorem abortTx_boundary : (abortTx s).boundary = s.boundary := by
  rw [abortTx_eq]
  rfl

theorem abortRx_boundary : (abortRx s).boundary = s.boundary := by
  rw [abortRx_eq]
  rfl

theorem armTx_keepsBoundary : KeepsBoundary s (armTx s) := by
  intro t ht
  obtain ⟨acts, d, u, c, e, rfl, -⟩ := armTx_next ht
  rfl

theorem armRx_keepsBoundary : KeepsBoundary s (armRx s) := by
  intro t ht
  obtain ⟨ch, -, rfl⟩ | ⟨-, rfl⟩ := armRx_next ht <;> rfl

theorem armBoth_keepsBoundary : KeepsBoundary s (armBoth s) := (armRx_keepsBoundary s).andThen armTx_keepsBoundary

theorem threCase_boundary {r : State × EventMask} (h : threCase s = .next r) : r.1.boundary = s.boundary := by
  obtain ⟨t, ht, h⟩ := andThen_eq_next.1 h
  obtain ⟨acts, d, u, rfl, -⟩ := pushChars_next ht
  dsimp only at h
  split at h
  · cases h
    exact complete_boundary _ .tx
  · cases h
    rfl

theorem drain_boundary {r : State × EventMask} (h : drain s = .next r) : r.1.boundary = s.boundary := by
  obtain ⟨t, ht, h⟩ := andThen_eq_next.1 h
  obtain ⟨f, acts, m, old, u, d, rfl⟩ := drainChars_next ht
  dsimp only at h
  split at h
  · cases h
    exact complete_boundary _ .rx
  · cases h
    rfl

theorem dmaRxDone_boundary {r : State × EventMask} (h : dmaRxDone s = .next r) : r.1.boundary = s.boundary := by
  cases h
  rw [complete_boundary, settleRx_eq]
  rfl

theorem execSend_keepsBoundary : KeepsBoundary s (execSend s) :=
  .ite (.fail _) <| .ite (.fail _) <| .ite (.fail _) <| .ite
    (.andThen (armBoth_keepsBoundary (setupRx .discard 0 s.arg1 { setupTx .buffer s.arg0 s.arg1 s with syncTag := .txOnly }))
      fun _ => .succeed rfl)
    (.andThen (armTx_keepsBoundary (setupTx .buffer s.arg0 s.arg1 s)) fun _ => .succeed rfl)

theorem execReceive_keepsBoundary : KeepsBoundary s (execReceive s) :=
  .ite (.fail _) <| .ite (.fail _) <| .ite (.fail _) <| .ite
    (.andThen (armBoth_keepsBoundary (setupTx .fill 0 s.arg1 { setupRx .buffer s.arg0 s.arg1 s with syncTag := .rxOnly }))
      fun _ => .succeed rfl)
    (.andThen (armRx_keepsBoundary (setupRx .buffer s.arg0 s.arg1 s)) fun _ => .succeed rfl)

theorem execTransfer_keepsBoundary : KeepsBoundary s (execTransfer s) :=
  .ite (.fail _) <| .ite (.fail _) <| .ite (.fail _) <| .ite (.fail _) <|
    .andThen
      (armBoth_keepsBoundary { setupTx .buffer s.arg0 s.arg2 (setupRx .buffer s.arg1 s.arg2 s) with syncTag := .txAndRx })
      fun _ => .succeed rfl

theorem execAbortSend_keepsBoundary : KeepsBoundary s (execAbortSend s) := by
  refine .succeed ?_
  split
  · exact (abortRx_boundary _).trans (abortTx_boundary s)
  · exact abortTx_boundary s

theorem execAbortReceive_keepsBoundary : KeepsBoundary s (execAbortReceive s) := by
  refine .succeed ?_
  split
  · exact (abortRx_boundary _).trans (abortTx_boundary s)
  · exact abortRx_boundary s

end

/-- The four lifecycle commands of R147's table. -/
def movesLifecycle (i : Instr) : Prop :=
  i = .initialise ∨ i = .uninitialize ∨ i = .powerControl ∨ i = .configure

/-- Every other instruction keeps the boundary registers. -/
theorem exec_keepsBoundary {i : Instr} (s : State) (hi : ¬movesLifecycle i) : KeepsBoundary s (exec i s) := by
  cases i with
  | initialise | uninitialize | powerControl | configure => exact absurd (by simp [movesLifecycle]) hi
  | setTxFill => exact .ite (.fail _) (.ite (.fail _) (.succeed rfl))
  | send => exact execSend_keepsBoundary s
  | receive => exact execReceive_keepsBoundary s
  | transfer => exact execTransfer_keepsBoundary s
  | getTxCount | getRxCount | getStatus => exact .succeed rfl
  | abortSend => exact execAbortSend_keepsBoundary s
  | abortReceive => exact execAbortReceive_keepsBoundary s
  | abortTransfer => exact .succeed ((abortRx_boundary _).trans (abortTx_boundary s))
  | irqThre => exact .gated fun _ => threCase_boundary s
  | irqRda => exact .gated fun _ => drain_boundary s
  | irqCti =>
    refine .gated fun r h => ?_
    obtain ⟨q, hq, ⟨⟩⟩ := andThen_eq_next.1 h
    exact drain_boundary (r := q) s hq
  | irqRls | irqMs => exact .gated fun _ h => by cases h; rfl
  | dmaTxOk => exact .gated fun _ h => by cases h; exact complete_boundary _ .tx
  | dmaRxOk => exact .gated fun _ => dmaRxDone_boundary s
  | irqNone | irqReserved8 | irqReservedA | irqReservedE | dmaTxError | dmaRxError =>
    exact fun t ht => by cases (dispatch_ignore s).symm.trans ht; rfl

theorem lcAfter_eq {i : Instr} (s : State) (hi : ¬movesLifecycle i) : Expected.lcAfter i s = s.lc := by
  cases i with
  | initialise | uninitialize | powerControl | configure => exact absurd (by simp [movesLifecycle]) hi
  | _ => rfl

/-- LC is `lc` in the state `t`, unless a command failed in it (00_scope.md R13). -/
def EndsIn (lc : Lifecycle) (t : State) : Prop := t.result = 0 → t.lc = lc

section
variable {s : State}

theorem EndsIn.failed {lc : Lifecycle} {code : BitVec 8} (hcode : code ≠ 0) : EndsIn lc (Expected.failed s code) :=
  fun h => absurd h hcode

theorem EndsIn.check {lc : Lifecycle} {c : Prop} [Decidable c] {code : BitVec 8} {t : State} (hcode : code ≠ 0)
    (h : EndsIn lc t) : EndsIn lc (if c then Expected.failed s code else t) := by
  split
  · exact .failed hcode
  · exact h

theorem EndsIn.ite {lc lc' : Lifecycle} {c : Prop} [Decidable c] {t t' : State} (h : EndsIn lc t) (h' : EndsIn lc' t') :
    EndsIn (if c then lc else lc') (if c then t else t') := by
  split
  · exact h
  · exact h'

variable (s)

theorem afterInitialise_lc : EndsIn .initialized (Expected.afterInitialise s) := by
  refine .check (by decide) <| .check (by decide) fun _ => ?_
  split
  · assumption
  · rfl

theorem afterPowerControl_lc : EndsIn (Expected.lcAfter .powerControl s) (Expected.afterPowerControl s) :=
  .check (by decide) <| .check (by decide) <|
    .ite (.ite (fun _ => rfl) fun _ => rfl) <| .check (by decide) <| .check (by decide) fun _ => rfl

theorem committed_lc (r : SolveResult) : EndsIn .configured (Expected.committed s r) := by
  cases r with
  | noDivisor => exact .failed (by decide)
  | outOfTolerance => exact .failed (by decide)
  | ok m d dv a => exact fun _ => rfl

theorem afterConfigure_lc : EndsIn .configured (Expected.afterConfigure s) :=
  .check (by decide) <| .check (by decide) <| .check (by decide) <| .check (by decide) <| .check (by decide) <|
    .check (by decide) <| .check (by decide) <| committed_lc s _

/-- LC after an instruction that does not fail (R147). -/
theorem exec_lc {i : Instr} {t : State} (ht : exec i s = .next t) (hok : movesLifecycle i → t.result = 0) :
    t.lc = Expected.lcAfter i s := by
  by_cases hi : movesLifecycle i
  · have hres := hok hi
    obtain rfl | rfl | rfl | rfl := hi
    · cases (execInitialize_eq s).symm.trans ht
      exact afterInitialise_lc s hres
    · cases (execUninitialize_eq s).symm.trans ht
      rfl
    · cases (execPowerControl_eq s).symm.trans ht
      exact afterPowerControl_lc s hres
    · cases (execConfigure_eq s).symm.trans ht
      exact afterConfigure_lc s hres
  · rw [lcAfter_eq s hi]
    exact congrArg Prod.fst (exec_keepsBoundary s hi t ht)

end

/-- Settles O41: a failed command changes RESULT alone, and `exec_lc` says what every other instruction leaves in LC. -/
theorem lifecycleTransitions : Obligations.LifecycleTransitions := by
  unfold Obligations.LifecycleTransitions
  intro i s t ht
  split
  next hfail =>
    obtain ⟨hcmd, hres⟩ := hfail
    rw [failureChangesResultOnly i s t hcmd ht hres]
  next hok =>
    refine exec_lc s ht fun hi => ?_
    have hcmd : isCommand i = true := by obtain rfl | rfl | rfl | rfl := hi <;> rfl
    exact not_not.1 fun hres => hok ⟨hcmd, hres⟩

end Sys2Proof.Machine
end

section
/-! The transfer commands (spec/42_transfer.md R170 to R191). Every start sets its sides up and arms them, RX before TX, and setting
up one side commutes with everything done to the other: so one lemma per side, `armTx_setupTx` and `armRx_setupRx`, and one for
both, `armBoth_setupPair`, give what the three starts leave behind. -/

namespace Sys2Proof.Machine

/-! The enables (10_state.md R37). -/

theorem ierPut_rlse_true (ier : BitVec 4) : ierPut ier 2 true = ier ||| 0b0100 := rfl

theorem ierPut_rx_true : ∀ ier : BitVec 4, ierPut (ierPut ier 2 true) 0 true = ier ||| 0b0101 := by decide

theorem ierPut_rx_false : ∀ ier : BitVec 4, ierPut (ierPut ier 0 false) 2 false = ier &&& 0b1010 := by decide

/-! The bytes that arming TX reads. -/

/-- The block reads a free value exactly where its own access finds the byte unknown (U2). -/
theorem freeToBlock_iff {s : State} {a : Addr} :
    Expected.freeToBlock s a ↔ (s.blockTouch a).unknownAt a = true := by
  rw [blockTouch_unknownAt, Expected.freeToBlock, inSync_eq, onRecord_iff, receives_iff, unsettled_iff]
  simp [and_assoc]

/-- The record after `k` reads is the one the reads make (R72, U2). -/
theorem afterReads_afterReading (k : Nat) (s : State) :
    Expected.afterReading s ((List.range k).map fun j => s.txBuf + BitVec.ofNat 32 j) (afterReads k 0 s) := by
  intro a
  have hreads : (∃ b ∈ (List.range k).map fun j => s.txBuf + BitVec.ofNat 32 j, Expected.receives s b) ↔
      ((List.range k).any fun j => s.rxOwns (s.txBuf + (0 + BitVec.ofNat 32 j))) = true := by
    simp [receives_iff]
  rw [hreads, inSync_eq, afterReads]
  split
  · rename_i htouch
    obtain ⟨hsync, hany⟩ := Bool.and_eq_true_iff.1 htouch
    obtain ⟨j, -, hj⟩ := List.any_eq_true.1 hany
    obtain ⟨hbuffer, -⟩ := Bool.and_eq_true_iff.1 hj
    have hasync : s.sync = false := by simpa using hsync
    have howns : s.rxOwns a = decide ((a - s.rxBuf).toNat < s.rxNum.toNat) := by rw [State.rxOwns, hbuffer, Bool.true_and]
    rw [onRecord_iff, covered_spoil, onRecord_iff, unsettled_iff, receives_iff, howns]
    simp only [hany, hasync, Bool.or_eq_true, decide_eq_true_eq, true_and, and_comm]
  · rename_i hquiet
    refine (or_iff_left ?_).symm
    rintro ⟨hsync, hany, -⟩
    exact hquiet (by rw [hsync, hany]; rfl)

/-- The first burst of a transfer that no one has raced with yet, read from its buffer (R170, R173). -/
theorem pushChars_fresh {s : State} {k : Nat} (hsrc : s.txSrc = .buffer) (hstale : s.stale = [])
    (hadm : ∀ j < k, s.params.memAdmits .read (s.txBuf + BitVec.ofNat 32 j) = true) :
    ∃ (bs : List Byte) (d : Nat) (u : List Span),
      (∀ j < k, Expected.freeToBlock s (s.txBuf + BitVec.ofNat 32 j) ∨
        bs.getD j 0 = Expected.byteAt s (s.txBuf + BitVec.ofNat 32 j)) ∧
      Expected.afterReading s ((List.range k).map fun j => s.txBuf + BitVec.ofNat 32 j) u ∧
      pushChars k 0 s = .next { s with
        draws := d, unknown := u
        out := s.out ++ (List.range k).flatMap fun j => [.memRead (s.txBuf + BitVec.ofNat 32 j), .thr (bs.getD j 0)] } := by
  have hzero : ∀ j, (0 : Word) + BitVec.ofNat 32 j = BitVec.ofNat 32 j := fun j => BitVec.zero_add _
  obtain ⟨bs, d, -, hbs, hpush⟩ := pushChars_buffer (k := k) (i := 0) hsrc fun j hj => by rw [hzero]; exact hadm j hj
  simp only [hzero] at hbs hpush
  refine ⟨bs, d, _, fun j hj => ?_, afterReads_afterReading k s, hpush⟩
  obtain hfree | hbyte | hraced := hbs j hj
  · exact .inl (freeToBlock_iff.2 hfree)
  · exact .inr hbyte
  · simp [State.staleAt, hstale] at hraced

/-! The sides, set up and armed. -/

/-- TX set up from a buffer and armed (R171, R173). -/
theorem armTx_setupTx {s : State} {buf : Addr} {len : Word} (hadm : Expected.txAdmitted s .buffer buf len) :
    ∃ bs d u, Expected.txReads s buf len bs d u ∧
      armTx (setupTx .buffer buf len s) = .next (Expected.startedTx s .buffer buf len bs d u) := by
  unfold Expected.txAdmitted at hadm
  unfold armTx Expected.txReads Expected.startedTx Expected.txStart
  rw [setupTx_params]
  cases hch : s.params.txDma with
  | some ch =>
    rw [hch] at hadm
    exact ⟨[], _, _, ⟨rfl, rfl⟩, if_pos hadm⟩
  | none =>
    rw [hch] at hadm
    obtain ⟨bs, d, u, hbs, hu, hpush⟩ :=
      pushChars_fresh (s := setupTx .buffer buf len s) (k := min 16 len.toNat) rfl rfl (hadm rfl)
    exact ⟨bs, d, u, ⟨hbs, hu⟩, congrArg (andThen · _) hpush⟩

/-- TX set up to send TX_FILL and armed: memory is not read (R170, R171, R173). -/
theorem armTx_setupTx_fill {s : State} {buf : Addr} {len : Word}
    (hadm : Expected.txAdmitted s .fill s.params.fillAddr len) :
    armTx (setupTx .fill buf len s) =
      .next (Expected.startedTx s .fill s.params.fillAddr len [] s.draws s.unknown) := by
  unfold Expected.txAdmitted at hadm
  unfold armTx Expected.startedTx Expected.txStart
  rw [setupTx_params]
  cases hch : s.params.txDma with
  | some ch =>
    rw [hch] at hadm
    exact if_pos hadm
  | none =>
    have hthr : ((List.range (min 16 len.toNat)).flatMap fun _ => [Action.thr s.txFill]) =
        List.replicate (min 16 len.toNat) (.thr s.txFill) := by
      rw [← List.map_eq_flatMap, List.map_const', List.length_range]
    dsimp only
    rw [hthr, pushChars_fill rfl]
    rfl

/-- RX set up and armed (R172, R174). -/
theorem armRx_setupRx {s : State} {dst : RxDest} {buf : Addr} {len : Word}
    (hadm : Expected.rxAdmitted s dst (setupRx dst buf len s).rxBuf len) :
    armRx (setupRx dst buf len s) = .next (Expected.startedRx s dst (setupRx dst buf len s).rxBuf len) := by
  unfold Expected.rxAdmitted at hadm
  unfold armRx Expected.startedRx
  rw [setupRx_params]
  cases hch : s.params.rxDma with
  | some ch =>
    rw [hch] at hadm
    have hreq : dmaProgram ((setupRx dst buf len s).rxRequest ch) ((setupRx dst buf len s).putRlse true) = .next _ :=
      if_pos hadm
    dsimp only
    rw [hreq, ← ierPut_rlse_true]
    simp only [State.emit, State.putRlse, setupRx, State.clearSticky, State.rxRequest]
    rfl
  | none =>
    dsimp only
    rw [← ierPut_rx_true, List.append_nil]
    simp only [State.putRxe, State.putRlse, setupRx, State.clearSticky]

/-! Both sides of a synchronous start. -/

/-- The two sides set up, as a synchronous start leaves them before it arms them (R171, R172, R180 to R182). -/
def setupPair (src : TxSource) (dst : RxDest) (txBuf rxBuf : Addr) (len : Word) (tag : SyncTag) (s : State) : State :=
  { setupTx src txBuf len (setupRx dst rxBuf len s) with syncTag := tag }

/-- Arming RX of the two leaves TX set up in a state whose RX side is armed (R178). -/
theorem armBoth_setupPair {s : State} {src : TxSource} {dst : RxDest} {txBuf rxBuf : Addr} {len : Word} {tag : SyncTag}
    (hadm : Expected.rxAdmitted s dst (setupRx dst rxBuf len s).rxBuf len) :
    armBoth (setupPair src dst txBuf rxBuf len tag s) =
      armTx (setupTx src txBuf len
        { Expected.startedRx s dst (setupRx dst rxBuf len s).rxBuf len with syncTag := tag }) := by
  have harm := armRx_setupRx (s := { setupTx src txBuf len s with syncTag := tag }) (dst := dst) (buf := rxBuf) hadm
  exact congrArg (andThen · armTx) harm

/-- What TX reads in a synchronous mode is not changed by the RX side that is armed before it (U12). -/
theorem txReads_startedRx {s : State} {dst : RxDest} {txBuf rxBuf : Addr} {len : Word} {tag : SyncTag} {bs : List Byte}
    {d : Nat} {u : List Span} (hsync : s.sync = true)
    (h : Expected.txReads { Expected.startedRx s dst rxBuf len with syncTag := tag } txBuf len bs d u) :
    Expected.txReads s txBuf len bs d u := by
  have hsync' : ({ Expected.startedRx s dst rxBuf len with syncTag := tag } : State).sync = true := hsync
  simp only [Expected.txReads, Expected.freeToBlock, Expected.afterReading, inSync_eq, hsync, hsync', Bool.true_eq_false,
    false_and, or_false] at h ⊢
  exact h

/-- A synchronous start that sends from a buffer (R178, R180, R182). -/
theorem armBoth_setupPair_buffer {s : State} {dst : RxDest} {txBuf rxBuf : Addr} {len : Word} {tag : SyncTag}
    (hsync : s.sync = true) (hrx : Expected.rxAdmitted s dst (setupRx dst rxBuf len s).rxBuf len)
    (htx : Expected.txAdmitted s .buffer txBuf len) :
    ∃ bs d u, Expected.txReads s txBuf len bs d u ∧
      armBoth (setupPair .buffer dst txBuf rxBuf len tag s) = .next
        { Expected.startedTx (Expected.startedRx s dst (setupRx dst rxBuf len s).rxBuf len) .buffer txBuf len bs d u with
          syncTag := tag } := by
  obtain ⟨bs, d, u, hreads, harm⟩ := armTx_setupTx
    (s := { Expected.startedRx s dst (setupRx dst rxBuf len s).rxBuf len with syncTag := tag }) htx
  exact ⟨bs, d, u, txReads_startedRx hsync hreads, (armBoth_setupPair hrx).trans harm⟩

/-! The checks. -/

/-- A check of a command and the code its statement gives for it. -/
theorem check_refused {s : State} {c c' : Prop} [Decidable c] [Decidable c'] {code : ResultCode} {b x : BitVec 8}
    {o : Result} {r : Option (BitVec 8)} (hb : code.bits = b) (hc : c ↔ c')
    (hrest : r = some x → o = .next (Expected.failed s x)) :
    (if c' then some b else r) = some x → (if c then fail code s else o) = .next (Expected.failed s x) := by
  by_cases hc' : c'
  · rw [if_pos hc', if_pos (hc.2 hc'), ← hb]
    rintro ⟨⟩
    rfl
  · rw [if_neg hc', if_neg (mt hc.1 hc')]
    exact hrest

section
variable {s : State} {code : BitVec 8}

theorem execSend_refused : Expected.sendRefusal s = some code → execSend s = .next (Expected.failed s code) :=
  check_refused rfl .rfl <| check_refused rfl .rfl <| check_refused rfl busyFor_tx nofun

theorem execReceive_refused : Expected.receiveRefusal s = some code → execReceive s = .next (Expected.failed s code) :=
  check_refused rfl .rfl <| check_refused rfl .rfl <| check_refused rfl busyFor_rx nofun

theorem execTransfer_refused : Expected.transferRefusal s = some code → execTransfer s = .next (Expected.failed s code) :=
  check_refused rfl .rfl <| check_refused rfl .rfl <| check_refused rfl (by simp [inSync_eq]) <|
    check_refused rfl (by simp [State.anyBusy]) nofun

end

/-- TRANSFER passes its checks in a synchronous mode alone (R182). -/
theorem sync_of_transferRefusal {s : State} (h : Expected.transferRefusal s = none) : s.sync = true := by
  simp only [Expected.transferRefusal, refusal_none_iff] at h
  obtain ⟨-, -, hsync, -⟩ := h
  rw [← inSync_eq]
  exact not_not.1 hsync

/-- Settles O23: the checks, then the sides set up and armed. -/
theorem sendEffect : Obligations.SendEffect := by
  unfold Obligations.SendEffect
  refine fun s => ⟨fun code => execSend_refused, fun hpass hadm => ?_⟩
  obtain ⟨hrx, htx⟩ := hadm
  show ∃ bs d u, _ ∧ execSend s = _
  rw [execSend_accepted hpass]
  unfold Expected.afterSend
  rw [inSync_eq] at hrx ⊢
  cases hsync : s.sync with
  | true =>
    obtain ⟨bs, d, u, hreads, harm⟩ := armBoth_setupPair_buffer (dst := .discard) (rxBuf := 0) (tag := .txOnly)
      hsync (hrx hsync) htx
    exact ⟨bs, d, u, hreads, congrArg (andThen · succeed) harm⟩
  | false =>
    obtain ⟨bs, d, u, hreads, harm⟩ := armTx_setupTx htx
    exact ⟨bs, d, u, hreads, congrArg (andThen · succeed) harm⟩

/-- RECEIVE (R181). -/
theorem execReceive_eq {s : State} (hadm : Expected.receiveRefusal s = none → Expected.receiveAdmitted s) :
    execReceive s = .next (Expected.afterReceive s) := by
  unfold Expected.afterReceive
  cases hcheck : Expected.receiveRefusal s with
  | some code => exact execReceive_refused hcheck
  | none =>
    obtain ⟨hrx, htx⟩ := hadm hcheck
    rw [execReceive_accepted hcheck]
    rw [inSync_eq] at htx ⊢
    cases hsync : s.sync with
    | true =>
      have harm := (armBoth_setupPair (src := .fill) (dst := .buffer) (txBuf := 0) (tag := .rxOnly) hrx).trans
        (armTx_setupTx_fill (htx hsync))
      exact congrArg (andThen · succeed) harm
    | false => exact congrArg (andThen · succeed) (armRx_setupRx hrx)

/-- Settles O24: the checks, then RX set up and armed, and in a synchronous mode a TX side that sends TX_FILL. -/
theorem receiveEffect : Obligations.ReceiveEffect := fun _ => execReceive_eq

/-- Settles O25: the checks, then both sides set up and armed. -/
theorem transferEffect : Obligations.TransferEffect := by
  unfold Obligations.TransferEffect
  refine fun s => ⟨fun code => execTransfer_refused, fun hpass hadm => ?_⟩
  obtain ⟨hrx, htx⟩ := hadm
  obtain ⟨bs, d, u, hreads, harm⟩ := armBoth_setupPair_buffer (dst := .buffer) (tag := .txAndRx)
    (sync_of_transferRefusal hpass) hrx htx
  exact ⟨bs, d, u, hreads, (execTransfer_accepted hpass).trans (congrArg (andThen · succeed) harm)⟩

/-! The queries. -/

/-- Settles O27: each query is one update of RVAL and RESULT. -/
theorem countQueries : Obligations.CountQueries := fun _ => ⟨rfl, rfl⟩

/-- The status word as a number (10_state.md R41). -/
theorem statusWord_toNat (s : State) :
    s.statusWord.toNat = s.sendActive.toNat + 2 * s.rxBusy.toNat + 8 * s.rxOverflow.toNat + 16 * s.rxBreak.toNat +
      32 * s.rxFraming.toNat + 64 * s.rxParity.toNat := by
  have key : ∀ send rx overflow brk framing parity : Bool,
      (0#25 ++ BitVec.ofBool parity ++ BitVec.ofBool framing ++ BitVec.ofBool brk ++ BitVec.ofBool overflow ++ 0#1 ++
        BitVec.ofBool rx ++ BitVec.ofBool send).toNat =
      send.toNat + 2 * rx.toNat + 8 * overflow.toNat + 16 * brk.toNat + 32 * framing.toNat + 64 * parity.toNat := by
    decide
  exact key ..

/-- Settles O28: GET_STATUS returns the status word. -/
theorem statusQuery : Obligations.StatusQuery := fun s => ⟨s.statusWord, rfl, statusWord_toNat s⟩

/-! The aborts. -/

theorem abortTx_eq_stopped (s : State) : abortTx s = Expected.stoppedTx s := by
  rw [abortTx_eq, Expected.stoppedTx, stopTx_eq]
  rfl

theorem abortRx_eq_stopped (s : State) : abortRx s = Expected.stoppedRx s := by
  rw [abortRx_eq, Expected.stoppedRx, stopRx_eq, ierPut_rx_false]

section
variable (s : State)

/-- ABORT_SEND (R186). -/
theorem execAbortSend_eq : execAbortSend s = .next
    { (if Expected.inSync s then Expected.stoppedRx (Expected.stoppedTx s) else Expected.stoppedTx s) with
      syncTag := .none, result := 0 } := by
  rw [execAbortSend, abortRx_eq_stopped, abortTx_eq_stopped, inSync_eq]
  rfl

/-- ABORT_RECEIVE (R187). -/
theorem execAbortReceive_eq : execAbortReceive s = .next
    { (if Expected.inSync s then Expected.stoppedRx (Expected.stoppedTx s) else Expected.stoppedRx s) with
      syncTag := .none, result := 0 } := by
  rw [execAbortReceive, abortRx_eq_stopped, abortTx_eq_stopped, inSync_eq]
  cases s.sync <;> rfl

/-- ABORT_TRANSFER (R188). -/
theorem execAbortTransfer_eq : execAbortTransfer s = .next
    { Expected.stoppedRx (Expected.stoppedTx s) with syncTag := .none, result := 0 } := by
  rw [execAbortTransfer, abortRx_eq_stopped, abortTx_eq_stopped]
  rfl

end

/-- Settles O29: ABORT_TX and ABORT_RX, one after the other where both sides stop. -/
theorem abortEffects : Obligations.AbortEffects :=
  fun s => ⟨execAbortSend_eq s, execAbortReceive_eq s, execAbortTransfer_eq s⟩

/-! Starts after an abort and during a transfer. -/

/-- A RECEIVE that passes its checks and is admitted starts the RX side from a count of 0 (R172, R181). -/
theorem execReceive_starts {s : State} (hpass : Expected.receiveRefusal s = none) (hadm : Expected.receiveAdmitted s) :
    ∃ t, execReceive s = .next t ∧ t.result = 0 ∧ t.rxCnt = 0 ∧ t.rxNum = s.arg1 ∧ t.rxBusy = true := by
  refine ⟨_, execReceive_eq fun _ => hadm, ?_⟩
  rw [Expected.afterReceive, hpass]
  dsimp only
  split <;> exact ⟨rfl, rfl, rfl, rfl⟩

/-- What ABORT_RECEIVE leaves: an idle RX side, in a synchronous mode an idle TX side too, in the same mode (R187). -/
theorem execAbortReceive_idle (s : State) :
    ∃ u, execAbortReceive s = .next u ∧ u.rxBusy = false ∧ (s.sync = true → u.sendActive = false) ∧
      u.lc = s.lc ∧ u.cfg = s.cfg ∧ u.params = s.params := by
  refine ⟨_, execAbortReceive_eq s, ?_⟩
  rw [inSync_eq]
  cases s.sync with
  | true => exact ⟨rfl, fun _ => rfl, rfl, rfl, rfl⟩
  | false => exact ⟨rfl, nofun, rfl, rfl, rfl⟩

/-- Settles O52: the abort leaves no side busy that a check of RECEIVE asks for. -/
theorem abortThenReceive : Obligations.AbortThenReceive := by
  unfold Obligations.AbortThenReceive
  intro s buf len hlc hbuf hlen hrx htx
  obtain ⟨u, hu, hrxIdle, htxIdle, hulc, hcfg, hpar⟩ := execAbortReceive_idle s
  have hsync : Expected.inSync { u with arg0 := buf, arg1 := len } = Expected.inSync s := by
    rw [Expected.inSync, hcfg, Expected.inSync]
  have hpass : Expected.receiveRefusal { u with arg0 := buf, arg1 := len } = none := by
    simp only [Expected.receiveRefusal, refusal_none_iff, hsync]
    refine ⟨not_or.2 ⟨hbuf, hlen⟩, not_not.2 (hulc.trans hlc), ?_, trivial⟩
    rw [hrxIdle, inSync_eq]
    rintro (⟨⟨⟩⟩ | ⟨hs, hsend⟩)
    exact absurd hsend (by simp [htxIdle hs])
  have hadm : Expected.receiveAdmitted { u with arg0 := buf, arg1 := len } := by
    unfold Expected.receiveAdmitted
    rw [hsync, Expected.rxAdmitted, Expected.txAdmitted, hpar]
    exact ⟨hrx, htx⟩
  obtain ⟨t, ht, hdone⟩ := execReceive_starts hpass hadm
  exact ⟨u, t, hu, ht, hdone⟩

/-- Settles O53: an active send is in a CONFIGURED state (I-i), so that the busy check is the one that fails. -/
theorem sendWhileActive : Obligations.SendWhileActive := by
  unfold Obligations.SendWhileActive
  intro s hinv hactive hbuf hlen
  have hlc : s.lc = .configured := hinv.coupled.i_i (.inl hactive)
  have hbusy : Expected.sendRefusal s = some 5 := by
    rw [Expected.sendRefusal, if_neg (not_or.2 ⟨hbuf, hlen⟩), if_neg (not_not.2 hlc), if_pos (.inl hactive)]
  exact execSend_refused hbusy

end Sys2Proof.Machine
end

section
/-! What a command emits (spec/42_transfer.md R191, 00_scope.md R13): characters and requests come from arming alone, at most one
burst and one request for each side, and nothing but a dispatch raises an event. -/

namespace Sys2Proof.Machine

/-- What leads from `s` to `t` performs no action but those of stopping a side. -/
def Quiet (s t : State) : Prop :=
  ∃ acts, t.out = s.out ++ acts ∧ acts.all (fun a => !a.isCallback && !a.isThr && !a.isDmaProgram) = true

theorem Quiet.refl (s : State) : Quiet s s := ⟨[], (List.append_nil _).symm, rfl⟩

theorem Quiet.trans {s t u : State} (h : Quiet s t) (h' : Quiet t u) : Quiet s u := by
  obtain ⟨acts, hout, hquiet⟩ := h
  obtain ⟨acts', hout', hquiet'⟩ := h'
  exact ⟨acts ++ acts', by rw [hout', hout, List.append_assoc], by rw [List.all_append, hquiet, hquiet']; rfl⟩

theorem Quiet.of_out {s t u : State} (h : Quiet s t) (hout : u.out = t.out) : Quiet s u := by
  rw [Quiet, hout]
  exact h

theorem abortTx_quiet (s : State) : Quiet s (abortTx s) := by
  rw [abortTx_eq]
  exact ⟨_, rfl, stopActions_quiet ..⟩

theorem abortRx_quiet (s : State) : Quiet s (abortRx s) := by
  rw [abortRx_eq]
  exact ⟨_, rfl, stopActions_quiet ..⟩

theorem abortBoth_quiet (s : State) : Quiet s (abortRx (abortTx s)) := (abortTx_quiet s).trans (abortRx_quiet _)

theorem powerDown_quiet (s : State) : Quiet s (powerDown s) := (abortBoth_quiet s).of_out rfl

/-- Every next state of the part `o` of a command begun in `s` has added to the output at most `thr` characters, at most `dma`
requests, and no event. -/
def Emits (thr dma : Nat) (s : State) (o : Result) : Prop :=
  ∀ t, o = .next t → ∃ acts, t.out = s.out ++ acts ∧ acts.countP Action.isThr ≤ thr ∧
    acts.countP Action.isDmaProgram ≤ dma ∧ acts.countP Action.isCallback = 0

section
variable {s : State} {thr dma : Nat}

theorem Emits.mono {thr' dma' : Nat} {o : Result} (h : Emits thr dma s o) (hthr : thr ≤ thr') (hdma : dma ≤ dma') :
    Emits thr' dma' s o := by
  intro t ht
  obtain ⟨acts, hout, hthr', hdma', hcb⟩ := h t ht
  exact ⟨acts, hout, hthr'.trans hthr, hdma'.trans hdma, hcb⟩

theorem Emits.ite {c : Prop} [Decidable c] {o o' : Result} (h : Emits thr dma s o) (h' : Emits thr dma s o') :
    Emits thr dma s (if c then o else o') := by
  split
  · exact h
  · exact h'

theorem Emits.next {t : State} (h : Quiet s t) : Emits thr dma s (.next t) := by
  rintro _ ⟨⟩
  obtain ⟨acts, hout, hquiet⟩ := h
  simp only [List.all_eq_true, Bool.and_eq_true, Bool.not_eq_true'] at hquiet
  have hnone : ∀ p : Action → Bool, (∀ a ∈ acts, p a = false) → acts.countP p = 0 := by
    intro p hp
    rw [List.countP_eq_zero]
    exact fun a ha => by simp [hp a ha]
  have hcb := hnone Action.isCallback fun a ha => (hquiet a ha).1.1
  have hthr := hnone Action.isThr fun a ha => (hquiet a ha).1.2
  have hdma := hnone Action.isDmaProgram fun a ha => (hquiet a ha).2
  exact ⟨acts, hout, hthr ▸ Nat.zero_le _, hdma ▸ Nat.zero_le _, hcb⟩

theorem Emits.fail (code : ResultCode) : Emits thr dma s (fail code s) := .next (.refl s)

theorem Emits.succeed {t : State} (h : Quiet s t) : Emits thr dma s (succeed t) := .next h

/-- A start arms its sides in a state `v` that was set up without an action, and then succeeds. -/
theorem Emits.start {v : State} {o : Result} (h : Emits thr dma v o) (hv : v.out = s.out) :
    Emits thr dma s (andThen o Machine.succeed) := by
  intro t ht
  obtain ⟨u, hu, ⟨⟩⟩ := andThen_eq_next.1 ht
  rw [← hv]
  exact h u hu

end

/-! Arming (R173, R174, R178). -/

section
variable (s : State)

theorem armTx_emits : Emits 16 1 s (armTx s) := by
  intro t ht
  obtain ⟨acts, d, u, c, e, rfl, hcb, ch, ⟨-, rfl, -⟩ | ⟨-, hthr, hdma, -⟩⟩ := armTx_next ht
  · exact ⟨_, rfl, Nat.zero_le 16, Nat.le_refl 1, rfl⟩
  · refine ⟨acts, rfl, hthr ▸ Nat.min_le_left _ _, hdma ▸ Nat.zero_le _, ?_⟩
    rw [List.countP_eq_zero]
    simpa using hcb

theorem armRx_emits : Emits 0 1 s (armRx s) := by
  intro t ht
  obtain ⟨ch, -, rfl⟩ | ⟨-, rfl⟩ := armRx_next ht
  · exact ⟨[.dmaProgram (s.rxRequest ch)], rfl, Nat.le_refl 0, Nat.le_refl 1, rfl⟩
  · exact ⟨[], (List.append_nil _).symm, Nat.le_refl 0, Nat.zero_le 1, rfl⟩

theorem armBoth_emits : Emits 16 2 s (armBoth s) := by
  intro t ht
  obtain ⟨u, hu, ht⟩ := andThen_eq_next.1 ht
  obtain ⟨acts, hout, hthr, hdma, hcb⟩ := armRx_emits s u hu
  obtain ⟨acts', hout', hthr', hdma', hcb'⟩ := armTx_emits u t ht
  refine ⟨acts ++ acts', by rw [hout', hout, List.append_assoc], ?_, ?_, ?_⟩
  · rw [List.countP_append]; omega
  · rw [List.countP_append]; omega
  · rw [List.countP_append, hcb, hcb']

end

/-! The commands. -/

section
variable {s : State}

theorem execInitialize_emits : Emits 16 2 s (execInitialize s) := by
  refine .ite (.fail _) ?_
  cases s.lc with
  | powered => exact .fail _
  | configured => exact .fail _
  | initialized => exact .succeed (.refl s)
  | unpowered => exact .succeed (.refl s)

theorem execUninitialize_emits : Emits 16 2 s (execUninitialize s) := by
  have hstop : Quiet s (if s.lc.isPowered then powerDown s else s) := by
    split
    · exact powerDown_quiet s
    · exact .refl s
  exact .succeed (hstop.of_out rfl)

theorem execPowerControl_emits : Emits 16 2 s (execPowerControl s) := by
  unfold execPowerControl
  cases argPowerState s.arg0 with
  | none => exact .fail _
  | some p =>
    cases p with
    | low => exact .fail _
    | off => exact .ite (.succeed (powerDown_quiet s)) (.succeed (.refl s))
    | full => exact .ite (.fail _) (.ite (.fail _) (.succeed (.refl s)))

theorem commitBaud_emits (r : SolveResult) : Emits 16 2 s (commitBaud r s) := by
  cases r with
  | noDivisor => exact .fail _
  | outOfTolerance => exact .fail _
  | ok m d dv a => exact .succeed (.refl s)

theorem execConfigure_emits : Emits 16 2 s (execConfigure s) := by
  refine .ite (.fail _) ?_
  cases modeOfBits (cfgMode (argCfg s.arg1)) with
  | none => exact .fail _
  | some mode =>
    exact .ite (.fail _) <| .ite (.fail _) <| .ite (.fail _) <| .ite (.fail _) <| .ite (.fail _) <| commitBaud_emits _

theorem execSetTxFill_emits : Emits 16 2 s (execSetTxFill s) := .ite (.fail _) (.ite (.fail _) (.succeed (.refl s)))

theorem execSend_emits : Emits 16 2 s (execSend s) :=
  .ite (.fail _) <| .ite (.fail _) <| .ite (.fail _) <| .ite
    (.start (armBoth_emits _) rfl)
    (.start ((armTx_emits _).mono (Nat.le_refl 16) (Nat.le_succ 1)) rfl)

theorem execReceive_emits : Emits 16 2 s (execReceive s) :=
  .ite (.fail _) <| .ite (.fail _) <| .ite (.fail _) <| .ite
    (.start (armBoth_emits _) rfl)
    (.start ((armRx_emits _).mono (Nat.zero_le 16) (Nat.le_succ 1)) rfl)

theorem execTransfer_emits : Emits 16 2 s (execTransfer s) :=
  .ite (.fail _) <| .ite (.fail _) <| .ite (.fail _) <| .ite (.fail _) <| .start (armBoth_emits _) rfl

theorem execAbortSend_emits : Emits 16 2 s (execAbortSend s) := by
  refine .succeed ?_
  split
  · exact abortBoth_quiet s
  · exact abortTx_quiet s

theorem execAbortReceive_emits : Emits 16 2 s (execAbortReceive s) := by
  refine .succeed ?_
  split
  · exact abortBoth_quiet s
  · exact abortRx_quiet s

end

/-- Every command; a dispatch is none. -/
theorem exec_command_emits {i : Instr} (s : State) (hi : isCommand i = true) : Emits 16 2 s (exec i s) := by
  cases i with
  | initialise => exact execInitialize_emits
  | uninitialize => exact execUninitialize_emits
  | powerControl => exact execPowerControl_emits
  | configure => exact execConfigure_emits
  | setTxFill => exact execSetTxFill_emits
  | send => exact execSend_emits
  | receive => exact execReceive_emits
  | transfer => exact execTransfer_emits
  | getTxCount | getRxCount | getStatus => exact .succeed (.refl s)
  | abortSend => exact execAbortSend_emits
  | abortReceive => exact execAbortReceive_emits
  | abortTransfer => exact .succeed (abortBoth_quiet s)
  | _ => cases hi

/-- Settles O42: only the starts write characters or program requests, and no command raises an event. -/
theorem commandOutputs : Obligations.CommandOutputs := by
  unfold Obligations.CommandOutputs
  exact fun i s t hi ht => exec_command_emits s hi t ht

end Sys2Proof.Machine
end

section
/-! The dispatches (spec/43_dispatcher.md R220 to R234). Every dispatch is a case that an enable or a channel gates, and
then DELIVER: `gated_open` and `gated_closed` say this once, and what is left is to say what each case does, in the terms of the
statements. -/

namespace Sys2Proof.Machine

/-- DELIVER in the terms of the statements (R229). -/
theorem deliver_delivered (mask : EventMask) (s : State) :
    deliver mask s = { s with out := s.out ++ Expected.delivered s mask } := deliver_eq mask s

/-- The busy flag of a side (R16). -/
def State.sideBusy (s : State) : Side → Bool
  | .tx => s.sendActive
  | .rx => s.rxBusy

/-- COMPLETE of a side that is idle by now (R228). -/
theorem complete_eq {side : Side} {s : State} (hidle : s.sideBusy side = false) :
    complete side s = ({ s with syncTag := Expected.completeTag side s }, Expected.completeMask side s) := by
  have hs : ∀ {tag tx rx}, s.syncTag = tag → s.sendActive = tx → s.rxBusy = rx →
      s = { s with syncTag := tag, sendActive := tx, rxBusy := rx } := by rintro _ _ _ rfl rfl rfl; rfl
  unfold complete Expected.completeTag Expected.completeMask
  rw [inSync_eq]
  cases hsync : s.sync with
  | false => cases side <;> rfl
  | true =>
    cases side with
    | tx =>
      cases htag : s.syncTag with
      | none | rxOnly => exact congrArg (·, 0) (hs htag rfl rfl)
      | txOnly => rfl
      | txAndRx =>
        rw [State.anyBusy, show s.sendActive = false from hidle]
        cases hrx : s.rxBusy with
        | false => rfl
        | true => exact congrArg (·, 0) (hs htag hidle hrx)
    | rx =>
      cases htag : s.syncTag with
      | none | txOnly => exact congrArg (·, 0) (hs htag rfl rfl)
      | rxOnly => rfl
      | txAndRx =>
        rw [State.anyBusy, show s.rxBusy = false from hidle]
        cases htx : s.sendActive with
        | false => rfl
        | true => exact congrArg (·, 0) (hs htag htx hidle)

/-- A count that `k` more characters, no more than are missing, bring to the length (R222, R224). -/
theorem count_reached_iff {cnt num : Word} {k : Nat} (hk : k ≤ num.toNat - cnt.toNat) :
    cnt + BitVec.ofNat 32 k = num ↔ cnt.toNat + k = num.toNat := by
  have hnum := num.isLt
  have hcnt := cnt.isLt
  rw [← BitVec.toNat_inj, BitVec.toNat_add, BitVec.toNat_ofNat]
  omega

theorem rlsMask_eq (s : State) : rlsMask s = Expected.rlsMask s := by
  have hslave : (lsrOverrun s.lsr && s.isSlave && s.sendActive) = true ↔
      s.lsr.getLsbD 1 ∧ s.cfg.extractLsb' 0 3 = 2 ∧ s.sendActive := by
    simp [lsrOverrun, State.isSlave, cfgMode, and_assoc]
  have hunderflow : postIf (lsrOverrun s.lsr && s.isSlave && s.sendActive) .txUnderflow =
      if s.lsr.getLsbD 1 ∧ s.cfg.extractLsb' 0 3 = 2 ∧ s.sendActive then 0x10 else 0 := if_congr hslave rfl rfl
  have hline : ∀ brk framing : Bool, postIf brk .rxBreak ||| postIf (!brk && framing) .rxFramingError =
      if brk then 0x80 else if framing then 0x100 else 0 := by decide
  rw [rlsMask, BitVec.or_assoc, hline, hunderflow]
  rfl

theorem msMask_eq (s : State) : msMask s = Expected.msMask s := by
  simp only [msMask, Expected.msMask, postIf, msrCts, msrDsr, msrRi, msrDcd, Event.mask, Bool.and_eq_true]

/-! The gates. -/

section
variable {c : Prop} [Decidable c] {o : Answer (State × EventMask)} {s : State}

theorem gated_open (hc : c) : dispatch (if c then o else ignore s) = dispatch o := congrArg dispatch (if_pos hc)

theorem gated_closed (hc : ¬c) : dispatch (if c then o else ignore s) = .next s :=
  (congrArg dispatch (if_neg hc)).trans (dispatch_ignore s)

/-- A case that answers, delivered (R229). -/
theorem dispatch_next (t : State) (mask : EventMask) :
    dispatch (.next (t, mask)) = .next { t with out := t.out ++ Expected.delivered t mask } :=
  congrArg Host.Outcome.next (deliver_delivered mask t)

end

/-- Settles O35: each of these dispatches is `ignore`, or is gated by an enable that is off. -/
theorem ignoredInterrupts : Obligations.IgnoredInterrupts := fun s =>
  have closed {enable : Bool} (h : enable = false) (o) :
      dispatch (if enable = true then o else ignore s) = .next s := gated_closed (Bool.not_eq_true _ ▸ h)
  ⟨fun _ => dispatch_ignore s, dispatch_ignore s, dispatch_ignore s, dispatch_ignore s,
    fun h => closed h _, fun h => closed h _, fun h => closed h _, fun h => closed h _, fun h => closed h _⟩

/-- Settles O37: an error completion is `ignore`, and the engine is busy on no side that is idle or has no channel. -/
theorem ignoredCompletions : Obligations.IgnoredCompletions := by
  unfold Obligations.IgnoredCompletions
  refine fun s => ⟨dispatch_ignore s, dispatch_ignore s, fun h => gated_closed ?_, fun h => gated_closed ?_⟩
  · rw [State.engineBusy]
    obtain h | h := h <;> simp [h]
  · rw [State.engineBusy]
    obtain h | h := h <;> simp [h]

/-! Line status and modem status. -/

/-- Settles O31: the case is one update of the sticky flags with the mask of R223. -/
theorem rlsEffect : Obligations.RlsEffect := by
  unfold Obligations.RlsEffect
  intro s hrlse
  refine (gated_open hrlse).trans ((dispatch_next _ _).trans ?_)
  rw [rlsMask_eq, Bool.and_comm]
  rfl

/-- Settles O34: the case changes nothing and posts the mask of R226. -/
theorem msEffect : Obligations.MsEffect := by
  unfold Obligations.MsEffect
  intro s hmse
  refine (gated_open hmse).trans ((dispatch_next _ _).trans ?_)
  rw [msMask_eq]

/-! The completions of the engine. -/

/-- Settles O36: the side is ended, and then COMPLETE; for RX the buffer becomes known too. -/
theorem dmaOkEffect : Obligations.DmaOkEffect := by
  unfold Obligations.DmaOkEffect
  refine fun s ch => ⟨fun hchan hbusy => ?_, fun hchan hbusy => ⟨s.settleRx.unknown, ?_⟩⟩
  · have hengine : s.engineBusy .tx = true := by simp [State.engineBusy, hchan, hbusy]
    refine (gated_open hengine).trans ?_
    rw [dmaTxDone, complete_eq rfl]
    exact dispatch_next _ _
  · have hengine : s.engineBusy .rx = true := by simp [State.engineBusy, hchan, hbusy]
    refine (gated_open hengine).trans ?_
    rw [dmaRxDone, settleRx_eq, complete_eq rfl]
    exact dispatch_next _ _

end Sys2Proof.Machine
end

section
/-! THRE (spec/43_dispatcher.md R222): the refill reads and writes its characters as the start of a transfer does, from the
count on instead of from 0. -/

namespace Sys2Proof.Machine

theorem mem_staleAt {s : State} {a : Addr} {b : Byte} (h : b ∈ s.staleAt a) : (a.toNat, b) ∈ s.stale := by
  simpa [State.staleAt] using h

/-- The record after `k` reads from index `i` on (R72, U2): those from index 0 of a buffer that begins `i` bytes later. -/
theorem afterReads_afterReading_from (k : Nat) (i : Word) (s : State) :
    Expected.afterReading s ((List.range k).map fun j => s.txBuf + (i + BitVec.ofNat 32 j)) (afterReads k i s) := by
  have haddr : ∀ j, s.txBuf + i + ((0 : Word) + BitVec.ofNat 32 j) = s.txBuf + (i + BitVec.ofNat 32 j) := fun j => by
    rw [show (0 : Word) + BitVec.ofNat 32 j = BitVec.ofNat 32 j from BitVec.zero_add _, BitVec.add_assoc]
  have hreads : afterReads k 0 { s with txBuf := s.txBuf + i } = afterReads k i s := by
    simp only [afterReads, haddr]
    rfl
  have h := afterReads_afterReading k { s with txBuf := s.txBuf + i }
  simp only [hreads, BitVec.add_assoc] at h
  exact h

/-- Characters written without a read between them. -/
theorem thr_all (bs : List Byte) :
    ((List.range bs.length).flatMap fun j => [Action.thr (bs.getD j 0)]) = bs.map .thr := by
  rw [← List.map_eq_flatMap]
  exact List.ext_getElem (by simp) (by simp +contextual)

/-- The characters of a refill (R170, R222): dummy characters, or bytes the block may read. -/
theorem pushChars_refill {s : State}
    (hadm : s.txSrc = .buffer → ∀ j < Expected.refill s, s.params.memAdmits .read (Expected.refillAddr s j) = true) :
    ∃ (bs : List Byte) (d : Nat) (u : List Span), bs.length = Expected.refill s ∧
      (∀ j < bs.length, Expected.maySend s j (bs.getD j 0)) ∧ Expected.refillRecord s u ∧
      pushChars (Expected.refill s) s.txCnt s =
        .next { s with draws := d, unknown := u, out := s.out ++ Expected.refillActions s bs } := by
  unfold Expected.maySend Expected.refillRecord Expected.refillActions
  cases hsrc : s.txSrc with
  | fill =>
    refine ⟨List.replicate (Expected.refill s) s.txFill, s.draws, s.unknown, List.length_replicate, fun j hj => ?_, rfl, ?_⟩
    · exact List.getD_replicate _ (by simpa using hj)
    · rw [pushChars_fill hsrc, thr_all, List.map_replicate]
      simp only [hsrc]
  | buffer =>
    obtain ⟨bs, d, hlen, hbs, hpush⟩ := pushChars_buffer hsrc (hadm hsrc)
    refine ⟨bs, d, _, hlen, fun j hj => ?_, afterReads_afterReading_from _ _ s, ?_⟩
    · obtain hfree | hbyte | hraced := hbs j (hlen ▸ hj)
      · exact .inl (freeToBlock_iff.2 hfree)
      · exact .inr (.inl hbyte)
      · exact .inr (.inr (mem_staleAt hraced))
    · rw [hpush]
      simp only [hsrc, hlen, Expected.refillAddr]

theorem refill_le (s : State) : Expected.refill s ≤ s.txNum.toNat - s.txCnt.toNat := Nat.min_le_right _ _

/-- THRE_CASE, whole, with the mask it leaves to DELIVER (R222, R228). -/
theorem threCase_eq {s : State}
    (hadm : s.txSrc = .buffer → ∀ j < Expected.refill s, s.params.memAdmits .read (Expected.refillAddr s j) = true) :
    ∃ (bs : List Byte) (d : Nat) (u : List Span), bs.length = Expected.refill s ∧
      (∀ j < bs.length, Expected.maySend s j (bs.getD j 0)) ∧ Expected.refillRecord s u ∧
      threCase s = .next
        (if s.txCnt.toNat + Expected.refill s = s.txNum.toNat then
          ({ s with
            txCnt := s.txNum, ier := s.ier &&& 0b1101, sendActive := false, syncTag := Expected.completeTag .tx s
            draws := d, unknown := u, out := s.out ++ Expected.refillActions s bs }, Expected.completeMask .tx s)
        else
          ({ s with
            txCnt := s.txCnt + BitVec.ofNat 32 (Expected.refill s), draws := d, unknown := u
            out := s.out ++ Expected.refillActions s bs }, 0)) := by
  obtain ⟨bs, d, u, hlen, hbs, hu, hpush⟩ := pushChars_refill hadm
  refine ⟨bs, d, u, hlen, hbs, hu, ?_⟩
  rw [threCase, show min Config.burst (s.txNum.toNat - s.txCnt.toNat) = Expected.refill s from rfl, hpush]
  dsimp only [andThen_next]
  by_cases hend : s.txCnt.toNat + Expected.refill s = s.txNum.toNat
  · have hcnt := (count_reached_iff (refill_le s)).2 hend
    rw [if_pos hend, if_pos hcnt, complete_eq rfl, hcnt]
    rfl
  · rw [if_neg hend, if_neg (mt (count_reached_iff (refill_le s)).1 hend)]

/-- Settles O30: the refill, and COMPLETE and DELIVER where it ends the TX side. -/
theorem threEffect : Obligations.ThreEffect := by
  unfold Obligations.ThreEffect
  intro s hthree hadm
  obtain ⟨bs, d, u, hlen, hbs, hu, hcase⟩ := threCase_eq hadm
  refine ⟨bs, d, u, hlen, hbs, hu, (gated_open hthree).trans ?_⟩
  rw [hcase]
  split
  · exact dispatch_next _ _
  · exact dispatch_ignore _

end Sys2Proof.Machine
end

section
/-! RDA and CTI (spec/43_dispatcher.md R224, R225): `drained s t 0` says what the drain leaves behind before DELIVER. -/

namespace Sys2Proof.Machine

section
variable {s t : State}

theorem drainCount_le (s : State) : Expected.drainCount s ≤ s.rxNum.toNat - s.rxCnt.toNat := Nat.min_le_right _ _

/-- A drain ends when the count is the length (R224). -/
theorem drainEnds_iff (s : State) :
    s.rxCnt + BitVec.ofNat 32 (Expected.drainCount s) = s.rxNum ↔ Expected.drainEnds s = true :=
  (count_reached_iff (drainCount_le s)).trans decide_eq_true_iff.symm

/-- The enables once a drain has ended the RX side: RXE is off, THREE and MSE are as before (R224, 10_state.md R37). -/
theorem drained_enables : ∀ ier : BitVec 4, (ier &&& 0b1010).getLsbD 0 = false ∧
    (ier &&& 0b1010).getLsbD 1 = ier.getLsbD 1 ∧ (ier &&& 0b1010).getLsbD 3 = ier.getLsbD 3 := by decide

/-- The characters a drain reads are the first of the FIFO input. -/
theorem take_getD {n j : Nat} {cs : List Byte} (hj : j < (cs.take n).length) : (cs.take n).getD j 0 = cs.getD j 0 := by
  rw [List.getD_eq_getElem _ _ hj, List.getElem_take, List.getD_eq_getElem]

/-- The loop of a drain, in the terms of the statements (R224, R65, R76, R297). -/
theorem drainChars_drained (hadm : Expected.drainAdmitted s) :
    ∃ m old u d,
      drainChars (s.fifo.take (s.rxNum.toNat - s.rxCnt.toNat)) s = .next { s with
        rxCnt := s.rxCnt + BitVec.ofNat 32 (Expected.drainCount s)
        fifo := s.fifo.drop (Expected.drainCount s)
        out := s.out ++ Expected.drainActions s
        mem := m, stale := old, unknown := u, draws := d } ∧
      (Memory.wf s.mem = true → ∀ a : Addr, m.read a.toNat = Expected.drainedByte s a) ∧
      (s.params.rxDma = none → ∀ a : Addr,
        Expected.onRecord u a ↔ Expected.onRecord s.unknown a ∧ ¬Expected.drainsTo s a) := by
  obtain ⟨m, old, u, d, hdrain, hspec⟩ :=
    drainChars_ok (s.fifo.take (s.rxNum.toNat - s.rxCnt.toNat)) s fun hdst j hj => hadm hdst j (drained_length s ▸ hj)
  have hlen := drained_length s
  have hlt : (s.fifo.take (s.rxNum.toNat - s.rxCnt.toNat)).length < 2 ^ 32 :=
    hlen ▸ Nat.lt_of_le_of_lt (drainCount_le s) (Nat.lt_of_le_of_lt (Nat.sub_le _ _) s.rxNum.isLt)
  obtain ⟨hmem, hrecord⟩ := hspec hlt
  refine ⟨m, old, u, d, ?_, fun hwf a => ?_, fun hchan a => ?_⟩
  · have hacts : ((List.range (Expected.drainCount s)).flatMap fun j =>
        drainAction s (s.rxBuf + (s.rxCnt + BitVec.ofNat 32 j))
          ((s.fifo.take (s.rxNum.toNat - s.rxCnt.toNat)).getD j 0)) = Expected.drainActions s := by
      refine List.flatMap_congr fun j hj => ?_
      rw [take_getD (hlen ▸ List.mem_range.1 hj)]
      rfl
    rw [hdrain, hlen, hacts]
  · rw [(hmem hwf).2 a, Expected.drainedByte, drainAddr_zero, hlen]
    refine ite_congr rfl (fun h => ?_) fun _ => rfl
    exact take_getD (hlen ▸ h.2.1)
  · rw [onRecord_iff, onRecord_iff, hrecord hchan a, Expected.drainsTo, drainAddr_zero, hlen]

theorem delivered_zero (s : State) : Expected.delivered s 0 = [] := if_neg fun h => h.2 rfl

/-- DRAIN, with the mask it leaves to DELIVER (R224, R228). -/
theorem drain_eq (hadm : Expected.drainAdmitted s) :
    ∃ t, drain s = .next (t, if Expected.drainEnds s then Expected.completeMask .rx s else 0) ∧ Expected.drained s t 0 := by
  obtain ⟨m, old, u, d, hdrain, hmem, hrecord⟩ := drainChars_drained hadm
  rw [drain, hdrain]
  dsimp only [andThen_next]
  unfold Expected.drained
  cases hends : Expected.drainEnds s with
  | true =>
    rw [if_pos ((drainEnds_iff s).2 hends), complete_eq rfl]
    refine ⟨_, rfl, ?_, hmem, hrecord⟩
    rw [delivered_zero, List.append_nil, ← ierPut_rx_false]
    rfl
  | false =>
    rw [if_neg (mt (drainEnds_iff s).1 (by simp [hends]))]
    refine ⟨_, rfl, ?_, hmem, hrecord⟩
    rw [delivered_zero, List.append_nil]
    rfl

/-- What DELIVER adds (R229). -/
theorem drained_deliver {mask : EventMask} (h : Expected.drained s t 0) : Expected.drained s (deliver mask t) mask := by
  obtain ⟨ht, hmem, hrecord⟩ := h
  rw [delivered_zero, List.append_nil] at ht
  rw [deliver_delivered]
  refine ⟨?_, hmem, hrecord⟩
  generalize t.mem = m, t.stale = old, t.unknown = u, t.draws = d at ht ⊢
  rw [ht]
  rfl

/-- Only a drain that ends leaves the count at the length (R224, R225). -/
theorem drained_reached {mask : EventMask} (h : Expected.drained s t mask) :
    t.rxCnt = t.rxNum ↔ Expected.drainEnds s = true := by
  rw [h.1]
  exact drainEnds_iff s

end

/-- Settles O32: the drain, and COMPLETE and DELIVER where it ends the RX side. -/
theorem rdaEffect : Obligations.RdaEffect := by
  unfold Obligations.RdaEffect
  intro s hrxe hadm
  obtain ⟨t, hdrain, hdrained⟩ := drain_eq hadm
  exact ⟨_, (gated_open hrxe).trans (congrArg dispatch hdrain), drained_deliver hdrained⟩

/-- Settles O33: the drain of RDA, and the timeout where it does not end the RX side. -/
theorem ctiEffect : Obligations.CtiEffect := by
  unfold Obligations.CtiEffect
  intro s hrxe hadm
  obtain ⟨t, hdrain, hdrained⟩ := drain_eq hadm
  have htimeout : ctiTimeout (t, if Expected.drainEnds s then Expected.completeMask .rx s else 0) =
      (t, if Expected.drainEnds s then Expected.completeMask .rx s else 0x40) := by
    have hmissing : (t.rxCnt != t.rxNum) = !Expected.drainEnds s := by
      rw [Bool.eq_iff_iff, bne_iff_ne, ne_eq, drained_reached hdrained, Bool.not_eq_true', Bool.not_eq_true]
    rw [ctiTimeout, hmissing]
    cases Expected.drainEnds s with
    | true => exact congrArg (t, ·) BitVec.or_zero
    | false => exact congrArg (t, ·) BitVec.zero_or
  refine ⟨_, (gated_open hrxe).trans ?_, drained_deliver hdrained⟩
  rw [hdrain, andThen_next, htimeout]
  rfl

end Sys2Proof.Machine
end

section
/-! What every dispatch keeps (spec/43_dispatcher.md R235, R237): its case raises no event and programs no transfer, and
DELIVER comes last. -/

namespace Sys2Proof.Machine

/-- The registers that no dispatch writes, beside those of `State.boundary` (R237). -/
def State.aside (s : State) : BitVec 8 × Word × Word × Word × Word × Byte × Bool :=
  (s.result, s.rval, s.arg0, s.arg1, s.arg2, s.txFill, s.mse)

/-- What the case of a dispatch in `s` may leave behind in `u`, before DELIVER. -/
structure CaseKept (s u : State) : Prop where
  aside : u.aside = s.aside
  send : u.sendActive = true → s.sendActive = true
  receive : u.rxBusy = true → s.rxBusy = true
  out : ∃ acts, u.out = s.out ++ acts ∧ acts.all (fun a => !a.isCallback && !a.isDmaProgram) = true

theorem CaseKept.of_out {s u : State} (haside : u.aside = s.aside) (hsend : u.sendActive = true → s.sendActive = true)
    (hreceive : u.rxBusy = true → s.rxBusy = true) (hout : u.out = s.out) : CaseKept s u :=
  ⟨haside, hsend, hreceive, [], by rw [hout, List.append_nil], rfl⟩

/-- COMPLETE changes SYNC_TAG alone (R228). -/
theorem CaseKept.complete {s u : State} (side : Side) (h : CaseKept s u) : CaseKept s (complete side u).1 := by
  obtain ⟨tag, htag⟩ := complete_fst side u
  rw [htag]
  exact ⟨h.aside, h.send, h.receive, h.out⟩

/-- Every next state of the part `o` of a dispatch is delivered after a case that keeps what a case keeps. -/
def Delivers (s : State) (o : Result) : Prop := ∀ t, o = .next t → ∃ u mask, t = deliver mask u ∧ CaseKept s u

section
variable {s : State}

theorem CaseKept.refl : CaseKept s s := .of_out rfl id id rfl

theorem Delivers.ignored : Delivers s (dispatch (ignore s)) := by
  intro t ht
  obtain ⟨u, mask, ⟨⟩, rfl⟩ := dispatch_eq_next.1 ht
  exact ⟨s, 0, rfl, .refl⟩

/-- A dispatch that its enable or its channel gates. -/
theorem Delivers.gated {c : Prop} [Decidable c] {o : Answer (State × EventMask)}
    (h : ∀ r, o = .next r → CaseKept s r.1) : Delivers s (dispatch (if c then o else ignore s)) := by
  split
  · intro t ht
    obtain ⟨u, mask, hu, rfl⟩ := dispatch_eq_next.1 ht
    exact ⟨u, mask, rfl, h _ hu⟩
  · exact .ignored

theorem threCase_caseKept {r : State × EventMask} (h : threCase s = .next r) : CaseKept s r.1 := by
  obtain ⟨t, ht, h⟩ := andThen_eq_next.1 h
  obtain ⟨acts, d, u, rfl, -, hacts⟩ := pushChars_next ht
  dsimp only at h
  split at h
  · cases h
    refine .complete .tx ⟨?_, nofun, id, acts, rfl, hacts⟩
    exact congrArg (_, _, _, _, _, _, ·) (s.putThree_mse false)
  · cases h
    exact ⟨rfl, id, id, acts, rfl, hacts⟩

/-- A drain that answers is one whose stores are admitted (R66). -/
theorem drainAdmitted_of_next {r : State × EventMask} (h : drain s = .next r) : Expected.drainAdmitted s := by
  intro hdst j hj
  by_contra hrej
  obtain ⟨a, ha⟩ := drain_fault hdst ⟨j, hj, Bool.eq_false_of_not_eq_true hrej⟩
  cases ha.symm.trans h

theorem drainActions_quiet (s : State) :
    (Expected.drainActions s).all (fun a => !a.isCallback && !a.isDmaProgram) = true := by
  rw [Expected.drainActions, List.all_flatMap, List.all_eq_true]
  intro j _
  cases s.rxDst <;> rfl

theorem drain_caseKept {r : State × EventMask} (h : drain s = .next r) : CaseKept s r.1 := by
  obtain ⟨t, ht, hdrained, -⟩ := drain_eq (drainAdmitted_of_next h)
  cases ht.symm.trans h
  have hmse : t.mse = s.mse := by
    rw [State.mse, hdrained]
    dsimp only
    split
    · exact (drained_enables s.ier).2.2
    · rfl
  refine ⟨?_, ?_, ?_, Expected.drainActions s, ?_, drainActions_quiet s⟩
  · rw [State.aside, hmse, hdrained]
    rfl
  · rw [hdrained]
    exact id
  · rw [hdrained]
    dsimp only
    split
    · nofun
    · exact id
  · rw [hdrained, delivered_zero, List.append_nil]

theorem dmaRxDone_caseKept {r : State × EventMask} (h : dmaRxDone s = .next r) : CaseKept s r.1 := by
  cases h
  rw [settleRx_eq]
  refine .complete .rx (.of_out ?_ id nofun rfl)
  exact congrArg (_, _, _, _, _, _, ·) (s.putRlse_mse false)

end

/-- Every dispatch; a command is none. -/
theorem exec_delivers {i : Instr} (s : State) (hi : isCommand i = false) : Delivers s (exec i s) := by
  cases i with
  | irqNone | irqReserved8 | irqReservedA | irqReservedE | dmaTxError | dmaRxError => exact .ignored
  | irqThre => exact .gated fun _ => threCase_caseKept
  | irqRda => exact .gated fun _ => drain_caseKept
  | irqCti =>
    refine .gated fun r h => ?_
    obtain ⟨q, hq, ⟨⟩⟩ := andThen_eq_next.1 h
    exact drain_caseKept (r := q) hq
  | irqRls | irqMs => exact .gated fun _ h => by cases h; exact .of_out rfl id id rfl
  | dmaTxOk => exact .gated fun _ h => by cases h; exact .complete .tx (.of_out rfl nofun id rfl)
  | dmaRxOk => exact .gated fun _ => dmaRxDone_caseKept
  | _ => cases hi

/-- A dispatch is none of the lifecycle commands. -/
theorem not_movesLifecycle {i : Instr} (hi : isCommand i = false) : ¬movesLifecycle i := by
  rintro (rfl | rfl | rfl | rfl) <;> cases hi

/-- Settles O43: what the case emits is no CALLBACK, and DELIVER comes after it. -/
theorem oneCallbackLast : Obligations.OneCallbackLast := by
  unfold Obligations.OneCallbackLast
  intro i s t hi ht
  have hcb : t.cbReg = s.cbReg := congrArg (·.2.1) (exec_keepsBoundary s (not_movesLifecycle hi) t ht)
  obtain ⟨u, mask, rfl, -, -, -, acts, hout, hquiet⟩ := exec_delivers s hi t ht
  rw [deliver_delivered] at hcb ⊢
  refine ⟨acts, Expected.delivered u mask, by rw [hout], ?_, ?_⟩
  · simp only [List.all_eq_true, Bool.and_eq_true, Bool.not_eq_true'] at hquiet
    exact List.countP_eq_zero.2 fun a ha => by simp [(hquiet a ha).1]
  · rw [Expected.delivered, show u.cbReg = s.cbReg from hcb]
    split
    · rename_i hposted
      exact .inr ⟨mask, rfl, hposted⟩
    · exact .inl rfl

/-- Settles O44: the boundary registers and those `aside` are kept, and neither the case nor DELIVER programs a transfer. -/
theorem dispatchFrame : Obligations.DispatchFrame := by
  unfold Obligations.DispatchFrame
  intro i s t hi ht
  have hboundary := exec_keepsBoundary s (not_movesLifecycle hi) t ht
  obtain ⟨u, mask, rfl, haside, hsend, hreceive, acts, hout, hquiet⟩ := exec_delivers s hi t ht
  rw [deliver_delivered] at hboundary ⊢
  simp only [State.boundary, Prod.mk.injEq] at hboundary
  simp only [State.aside, Prod.mk.injEq] at haside
  obtain ⟨hlc, hcb, hcfg, hdiv, hmul, hadd, hbaud⟩ := hboundary
  obtain ⟨hresult, hrval, harg0, harg1, harg2, hfill, hmse⟩ := haside
  refine ⟨hresult, hrval, harg0, harg1, harg2, hlc, hcb, hcfg, hfill, hdiv, hmul, hadd, hbaud, hmse, hsend, hreceive, ?_⟩
  have hacts : acts.countP Action.isDmaProgram = 0 := by
    simp only [List.all_eq_true, Bool.and_eq_true, Bool.not_eq_true'] at hquiet
    exact List.countP_eq_zero.2 fun a ha => by simp [(hquiet a ha).2]
  have hlast : (Expected.delivered u mask).countP Action.isDmaProgram = 0 := by
    unfold Expected.delivered
    split <;> rfl
  show (u.out ++ _).countP _ = _
  rw [hout, List.countP_append, List.countP_append, hacts, hlast]
  rfl

end Sys2Proof.Machine
end

section
/-! A receive on the interrupt path, over a run of RDA, CTI and THRE dispatches (spec/43_dispatcher.md R228, R236). Two
ledgers are kept over a run, each of which adds up from dispatch to dispatch: how far each side has come (`Progress`), and which
completions are still due (`State.due`), where an event reported is an event no longer due. -/

namespace Sys2Proof.Machine

/-! The progress of a side. -/

/-- What a dispatch of a side reads and writes: its enable, its busy flag, its count and its length. -/
structure SideView where
  enabled : Bool
  busy : Bool
  cnt : Word
  num : Word

def State.rxSide (s : State) : SideView := ⟨s.rxe, s.rxBusy, s.rxCnt, s.rxNum⟩

def State.txSide (s : State) : SideView := ⟨s.three, s.sendActive, s.txCnt, s.txNum⟩

/-- From `v` to `w` the side was offered `n` characters: it has taken them all without coming to its length, or it has ended. A
side that is not enabled takes none. -/
structure Progress (n : Nat) (v w : SideView) : Prop where
  num : w.num = v.num
  disabled : v.enabled = false → w = v
  enabled : v.enabled = true →
    w.enabled = true ∧ w.busy = v.busy ∧ w.cnt.toNat = v.cnt.toNat + n ∧ (0 < n → w.cnt.toNat < w.num.toNat) ∨
      w.enabled = false ∧ w.busy = false ∧ w.cnt = w.num

section
variable {n m : Nat} {v w x : SideView}

theorem Progress.stay (hw : w = v) (h : v.enabled = true → n = 0) : Progress n v w := by
  subst hw
  exact ⟨rfl, fun _ => rfl, fun hv => .inl ⟨hv, rfl, by rw [h hv]; rfl, fun hn => absurd (h hv) hn.ne'⟩⟩

theorem Progress.trans (h : Progress n v w) (h' : Progress m w x) : Progress (n + m) v x := by
  refine ⟨h'.num.trans h.num, fun hv => ?_, fun hv => ?_⟩
  · obtain rfl := h.disabled hv
    exact h'.disabled hv
  · obtain ⟨hw, hbusy, hcnt, hlt⟩ | hended := h.enabled hv
    · obtain ⟨hx, hbusy', hcnt', hlt'⟩ | hended := h'.enabled hw
      · refine .inl ⟨hx, hbusy'.trans hbusy, by omega, fun hpos => ?_⟩
        rw [h'.num] at hlt' ⊢
        omega
      · exact .inr hended
    · obtain rfl := h'.disabled hended.1
      exact .inr hended

/-- A side that was offered all that is missing has ended. -/
theorem Progress.ended (h : Progress n v w) (hv : v.enabled = true) (hpos : 0 < n)
    (hmissing : v.num.toNat - v.cnt.toNat ≤ n) : w.busy = false ∧ w.cnt = w.num := by
  obtain ⟨-, -, hcnt, hlt⟩ | ⟨-, hended⟩ := h.enabled hv
  · have hless := hlt hpos
    rw [h.num] at hless
    omega
  · exact hended

/-- No dispatch makes a side busy. -/
theorem Progress.busy (h : Progress n v w) (hw : w.busy = true) : v.busy = true := by
  cases hv : v.enabled with
  | false => rw [← h.disabled hv]; exact hw
  | true =>
    obtain ⟨-, hbusy, -⟩ | ⟨-, hidle, -⟩ := h.enabled hv
    · rw [← hbusy]; exact hw
    · rw [hidle] at hw; cases hw

/-- A count that takes `k` of `n` characters offered and does not reach the length takes them all. -/
theorem count_short {cnt num : Word} {k : Nat} (hle : cnt.toNat ≤ num.toNat) (hk : k = min n (num.toNat - cnt.toNat))
    (hshort : cnt.toNat + k ≠ num.toNat) :
    (cnt + BitVec.ofNat 32 k).toNat = cnt.toNat + n ∧ (cnt + BitVec.ofNat 32 k).toNat < num.toNat := by
  have hnum := num.isLt
  rw [BitVec.toNat_add, BitVec.toNat_ofNat]
  omega

end

/-! The completions that are due. -/

/-- The events that COMPLETE posts (R228). -/
def completionEvents : List Event := [.sendComplete, .receiveComplete, .transferComplete]

/-- The event is still to come: from the mode, the tag and the busy flags, it is reported when the sides it waits for have
ended. -/
def dueOf (sync : Bool) (tag : SyncTag) (send receive : Bool) : Event → Bool
  | .sendComplete => send && (!sync || tag == .txOnly)
  | .receiveComplete => receive && (!sync || tag == .rxOnly)
  | .transferComplete => tag == .txAndRx
  | _ => false

def State.due (s : State) : Event → Bool := dueOf s.sync s.syncTag s.sendActive s.rxBusy

/-- `side` was busy, and has ended with COMPLETE (R228). -/
def State.completed (s : State) : Side → State
  | .tx => { s with sendActive := false, syncTag := Expected.completeTag .tx s }
  | .rx => { s with rxBusy := false, syncTag := Expected.completeTag .rx s }

/-- The table of R228: what COMPLETE posts is no longer due, and all else that was due still is. -/
theorem completed_due {s : State} {side : Side} (hbusy : s.sideBusy side = true) :
    ∀ e ∈ completionEvents,
      (Expected.completeMask side s &&& e.mask != 0).toNat + ((s.completed side).due e).toNat = (s.due e).toNat := by
  cases side with
  | tx =>
    show ∀ e ∈ completionEvents, _ + (dueOf s.sync (Expected.completeTag .tx s) false s.rxBusy e).toNat = _
    unfold State.due Expected.completeTag Expected.completeMask
    rw [inSync_eq, show s.sendActive = true from hbusy]
    generalize s.sync = sync, s.rxBusy = receive
    cases s.syncTag <;> revert sync receive <;> decide
  | rx =>
    show ∀ e ∈ completionEvents, _ + (dueOf s.sync (Expected.completeTag .rx s) s.sendActive false e).toNat = _
    unfold State.due Expected.completeTag Expected.completeMask
    rw [inSync_eq, show s.rxBusy = true from hbusy]
    generalize s.sync = sync, s.sendActive = send
    cases s.syncTag <;> revert sync send <;> decide

/-- The end of the RX side consumes no tag that the TX side still needs (R228). -/
theorem completeTag_rx_of_send {s : State} (hsend : s.sendActive = true) (htag : s.syncTag ≠ .rxOnly) :
    Expected.completeTag .rx s = s.syncTag := by
  refine if_neg ?_
  rintro ⟨hsync, hposted⟩
  simp [Expected.completeMask, hsync, htag, hsend] at hposted

theorem countP_delivered {s : State} (hcb : s.cbReg = true) (mask bits : EventMask) :
    (Expected.delivered s mask).countP (Expected.reports bits) = (mask &&& bits != 0).toNat := by
  unfold Expected.delivered
  by_cases hmask : mask = 0
  · simp [hmask]
  · rw [if_pos ⟨hcb, hmask⟩, List.countP_singleton]
    cases h : mask &&& bits != 0 <;> simp_all [Expected.reports]

/-- Only a CALLBACK reports. -/
theorem countP_reports_quiet {acts : List Action} (bits : EventMask)
    (h : acts.all (fun a => !a.isCallback && !a.isDmaProgram) = true) : acts.countP (Expected.reports bits) = 0 := by
  simp only [List.all_eq_true, Bool.and_eq_true, Bool.not_eq_true'] at h
  refine List.countP_eq_zero.2 fun a ha => ?_
  have hcallback := (h a ha).1
  cases a with
  | callback => cases hcallback
  | _ => simp [Expected.reports]

theorem refillActions_quiet (s : State) (bs : List Byte) :
    (Expected.refillActions s bs).all (fun a => !a.isCallback && !a.isDmaProgram) = true := by
  rw [Expected.refillActions, List.all_flatMap, List.all_eq_true]
  intro j _
  cases s.txSrc <;> rfl

/-! Both ledgers over a run. -/

/-- A run from `s` to `t` that emits `acts` and brings `n` characters and `k` THRE dispatches. -/
structure Advance (s t : State) (acts : List Action) (n k : Nat) : Prop where
  out : t.out = s.out ++ acts
  fixed : (t.cfg, t.cbReg, t.params) = (s.cfg, s.cbReg, s.params)
  rx : Progress n s.rxSide t.rxSide
  tx : Progress (16 * k) s.txSide t.txSide
  tag : t.sendActive = true → s.syncTag ≠ .rxOnly → t.syncTag = s.syncTag
  due : ∀ e ∈ completionEvents, acts.countP (Expected.reports e.mask) + (t.due e).toNat = (s.due e).toNat

section
variable {s t u : State} {acts acts' : List Action} {n k n' k' : Nat}

theorem Advance.stay (hrx : s.rxe = true → n = 0) (htx : s.three = true → k = 0) : Advance s s [] n k :=
  ⟨(List.append_nil _).symm, rfl, .stay rfl hrx, .stay rfl fun h => by rw [htx h], fun _ _ => rfl,
    fun _ _ => Nat.zero_add _⟩

theorem Advance.trans (h : Advance s t acts n k) (h' : Advance t u acts' n' k') :
    Advance s u (acts ++ acts') (n + n') (k + k') := by
  refine ⟨by rw [h'.out, h.out, List.append_assoc], h'.fixed.trans h.fixed, h.rx.trans h'.rx,
    Nat.mul_add 16 k k' ▸ h.tx.trans h'.tx, fun hsend htag => ?_, fun e he => ?_⟩
  · have hkept := h.tag (h'.tx.busy hsend) htag
    rw [h'.tag hsend (hkept ▸ htag), hkept]
  · rw [List.countP_append, Nat.add_assoc, h'.due e he, h.due e he]

/-- A completion is reported, once, exactly if it was due and no longer is. -/
theorem Advance.reported (h : Advance s t acts n k) {e : Event} (he : e ∈ completionEvents) {c : Prop} [Decidable c]
    (hc : c ↔ s.due e = true ∧ t.due e = false) :
    acts.countP (Expected.reports e.mask) = if c then 1 else 0 := by
  have hledger := h.due e he
  rw [if_congr hc rfl rfl]
  generalize s.due e = before, t.due e = after at hledger ⊢
  cases before <;> cases after <;> simp_all

/-- The FIFO input of the first dispatch is in neither ledger. -/
theorem Advance.of_fifo {cs : List Byte} (h : Advance { s with fifo := cs } t acts n k) : Advance s t acts n k := { h with }

end

/-! One dispatch. -/

section
variable {s : State}

/-- Every instruction keeps the invariant. -/
theorem exec_inv {i : Instr} {t : State} (hinv : s.Inv) (ht : exec i s = .next t) : t.Inv := by
  obtain ⟨u, hc, hb⟩ := exec_change ht
  exact (hc.inv hinv).of_bare hb

/-- A THRE dispatch offers the TX side 16 characters. -/
theorem thre_advance (hinv : s.Inv) (hcb : s.cbReg = true) (hadm : ∀ dir a, s.params.memAdmits dir a = true) :
    ∃ t acts, exec .irqThre s = .next t ∧ Advance s t acts 0 1 := by
  by_cases hthree : s.three = true
  swap
  · exact ⟨s, [], gated_closed hthree, .stay (fun _ => rfl) fun h => absurd h hthree⟩
  obtain ⟨hactive, -⟩ := hinv.coupled.i_f hthree
  obtain ⟨bs, d, u, -, -, -, hexec⟩ := threEffect s hthree fun _ _ _ => hadm _ _
  have hquiet : ∀ bits, (Expected.refillActions s bs).countP (Expected.reports bits) = 0 :=
    fun bits => countP_reports_quiet bits (refillActions_quiet s bs)
  by_cases hend : s.txCnt.toNat + Expected.refill s = s.txNum.toNat
  · rw [if_pos hend] at hexec
    refine ⟨_, _, hexec, List.append_assoc .., rfl, .stay ?_ fun _ => rfl, ⟨rfl, fun h => ?_, fun _ => ?_⟩, nofun,
      fun e he => ?_⟩
    · exact congrArg (SideView.mk · _ _ _) (s.putThree_rxe false)
    · cases h.symm.trans hthree
    · exact .inr ⟨s.putThree_three false, rfl, rfl⟩
    · rw [List.countP_append, hquiet, countP_delivered hcb, Nat.zero_add]
      exact completed_due (side := .tx) hactive e he
  · rw [if_neg hend] at hexec
    obtain ⟨hcnt, hlt⟩ := count_short hinv.coupled.i_e_tx rfl hend
    refine ⟨_, _, hexec, rfl, rfl, .stay rfl fun _ => rfl, ⟨rfl, fun h => ?_, fun _ => ?_⟩, fun _ _ => rfl,
      fun e he => ?_⟩
    · cases h.symm.trans hthree
    · exact .inl ⟨hthree, rfl, hcnt, fun _ => hlt⟩
    · rw [hquiet]
      exact Nat.zero_add _

/-- A drain that is enabled, by RDA or by CTI, and what the mask it delivers says of the completions (R224, R225). -/
theorem receive_dispatch {i : Instr} (hi : i = .irqRda ∨ i = .irqCti) (hrxe : s.rxe = true)
    (hadm : Expected.drainAdmitted s) :
    ∃ t mask, exec i s = .next t ∧ Expected.drained s t mask ∧
      (Expected.drainEnds s = true → mask = Expected.completeMask .rx s) ∧
      (Expected.drainEnds s = false → ∀ e ∈ completionEvents, (mask &&& e.mask != 0) = false) := by
  obtain rfl | rfl := hi
  · obtain ⟨t, ht, hdrained⟩ := rdaEffect s hrxe hadm
    exact ⟨t, _, ht, hdrained, fun h => if_pos h, fun h => by rw [h, if_neg Bool.false_ne_true]; decide⟩
  · obtain ⟨t, ht, hdrained⟩ := ctiEffect s hrxe hadm
    exact ⟨t, _, ht, hdrained, fun h => if_pos h, fun h => by rw [h, if_neg Bool.false_ne_true]; decide⟩

/-- An RDA or a CTI dispatch offers the RX side the characters of its FIFO input. -/
theorem receive_advance {i : Instr} (hi : i = .irqRda ∨ i = .irqCti) (hinv : s.Inv) (hcb : s.cbReg = true)
    (hadm : ∀ dir a, s.params.memAdmits dir a = true) :
    ∃ t acts, exec i s = .next t ∧ Advance s t acts s.fifo.length 0 := by
  by_cases hrxe : s.rxe = true
  swap
  · have hclosed : exec i s = .next s := by obtain rfl | rfl := hi <;> exact gated_closed hrxe
    exact ⟨s, [], hclosed, .stay (fun h => absurd h hrxe) fun _ => rfl⟩
  obtain ⟨hbusy, -⟩ := hinv.coupled.i_g hrxe
  obtain ⟨t, mask, hexec, ⟨ht, -⟩, hmask, hsilent⟩ := receive_dispatch hi hrxe fun _ _ _ => hadm _ _
  refine ⟨t, Expected.drainActions s ++ Expected.delivered s mask, hexec, ?_⟩
  have hcount : ∀ bits, (Expected.drainActions s ++ Expected.delivered s mask).countP (Expected.reports bits) =
      (mask &&& bits != 0).toNat := fun bits => by
    rw [List.countP_append, countP_reports_quiet bits (drainActions_quiet s), countP_delivered hcb, Nat.zero_add]
  generalize t.mem = m, t.stale = old, t.unknown = u, t.draws = d at ht
  subst ht
  cases hends : Expected.drainEnds s with
  | true =>
    obtain ⟨hrxeOff, hthree, -⟩ := drained_enables s.ier
    refine ⟨List.append_assoc .., rfl, ⟨rfl, fun h => ?_, fun _ => .inr ⟨?_, rfl, (drainEnds_iff s).2 hends⟩⟩,
      .stay ?_ fun _ => rfl, fun hsend htag => ?_, fun e he => ?_⟩
    · cases h.symm.trans hrxe
    · exact hrxeOff
    · exact congrArg (SideView.mk · _ _ _) hthree
    · exact completeTag_rx_of_send hsend htag
    · rw [hcount, hmask hends]
      exact completed_due (side := .rx) hbusy e he
  | false =>
    obtain ⟨hcnt, hlt⟩ := count_short hinv.coupled.i_e_rx rfl (of_decide_eq_false hends)
    refine ⟨List.append_assoc .., rfl, ⟨rfl, fun h => ?_, fun _ => .inl ⟨hrxe, rfl, hcnt, fun _ => hlt⟩⟩,
      .stay rfl fun _ => rfl, fun _ _ => rfl, fun e he => ?_⟩
    · cases h.symm.trans hrxe
    · rw [hcount, hsilent hends e he]
      exact Nat.zero_add _

end

/-! A run. -/

/-- The dispatches of a run, from a state with the invariant. -/
theorem dispatches_advance : ∀ {inputs : List (Instr × List Byte)} {s : State}, s.Inv → s.cbReg = true →
    (∀ dir a, s.params.memAdmits dir a = true) →
    (∀ p ∈ inputs, p.1 = .irqRda ∨ p.1 = .irqCti ∨ p.1 = .irqThre) →
    ∃ t acts, Expected.dispatches inputs s = .next t ∧ t.Inv ∧
      Advance s t acts (Expected.brought inputs) (Expected.thres inputs) := by
  intro inputs
  induction inputs with
  | nil => exact fun hinv _ _ _ => ⟨_, [], rfl, hinv, .stay (fun _ => rfl) fun _ => rfl⟩
  | cons p rest ih =>
    obtain ⟨i, cs⟩ := p
    intro s hinv hcb hadm hkinds
    have hinv' : ({ s with fifo := cs } : State).Inv := hinv.of_bare rfl
    obtain ⟨n, k, hbrought, hthres, u, acts, hexec, hfirst⟩ : ∃ n k,
        Expected.brought ((i, cs) :: rest) = n + Expected.brought rest ∧
        Expected.thres ((i, cs) :: rest) = k + Expected.thres rest ∧
        ∃ u acts, exec i { s with fifo := cs } = .next u ∧ Advance { s with fifo := cs } u acts n k := by
      have hone := hkinds (i, cs) List.mem_cons_self
      by_cases hthre : i = .irqThre
      · subst hthre
        exact ⟨0, 1, by simp [Expected.brought], by simp [Expected.thres, Nat.add_comm], thre_advance hinv' hcb hadm⟩
      · refine ⟨cs.length, 0, by simp [Expected.brought, hthre], by simp [Expected.thres, hthre], ?_⟩
        exact receive_advance (by simpa [hthre] using hone) hinv' hcb hadm
    have hrun := hfirst.of_fifo
    obtain ⟨-, hcb', hpar⟩ : _ ∧ u.cbReg = s.cbReg ∧ u.params = s.params := by simpa using hrun.fixed
    obtain ⟨t, acts', ht, htinv, hrest⟩ := ih (exec_inv hinv' hexec) (hcb'.trans hcb) (by rw [hpar]; exact hadm)
      fun p hp => hkinds p (List.mem_cons_of_mem _ hp)
    rw [hbrought, hthres]
    refine ⟨t, acts ++ acts', ?_, htinv, hrun.trans hrest⟩
    rw [Expected.dispatches, hexec]
    exact ht

/-- At the end of a run that ends the RX side, TRANSFER_COMPLETE is due exactly if it was and the TX side is busy still. -/
theorem Advance.transfer_due {s t : State} {acts : List Action} {n k : Nat} (h : Advance s t acts n k) (htag : t.TagOk)
    (hidle : t.rxBusy = false) :
    s.syncTag = .txAndRx ∧ t.sendActive = false ↔
      s.due .transferComplete = true ∧ t.due .transferComplete = false := by
  simp only [State.due, dueOf, beq_iff_eq, beq_eq_false_iff_ne]
  refine and_congr_right fun hs => ?_
  cases hsend : t.sendActive with
  | false => simp [htag.none_of_idle hsend hidle]
  | true => simp [h.tag hsend (by simp [hs]), hs]

/-- A SEND_COMPLETE that was due is due as long as the TX side is busy, and no longer. -/
theorem Advance.send_due {s t : State} {acts : List Action} {n k : Nat} (h : Advance s t acts n k) (htag : s.TagOk) :
    t.sendActive = false ∧ s.sendActive = true ∧ (s.sync = false ∨ s.syncTag = .txOnly) ↔
      s.due .sendComplete = true ∧ t.due .sendComplete = false := by
  cases hsend : t.sendActive with
  | false => simp [State.due, dueOf, hsend]
  | true =>
    refine iff_of_false nofun fun ⟨hs, ht⟩ => ?_
    obtain ⟨-, hwait⟩ : s.sendActive = true ∧ (s.sync = false ∨ s.syncTag = .txOnly) := by
      simpa [State.due, dueOf] using hs
    have hsync : t.sync = s.sync := by rw [State.sync_eq, State.sync_eq, show t.cfg = s.cfg from congrArg Prod.fst h.fixed]
    have hkept : t.syncTag = s.syncTag := by
      refine h.tag hsend ?_
      obtain hasync | htx := hwait
      · simp [htag.none_of_async hasync]
      · simp [htx]
    have hstill : t.due .sendComplete = true := by simpa [State.due, dueOf, hsend, hsync, hkept] using hwait
    cases ht.symm.trans hstill

/-- Settles O55: the RX side is offered all that is missing, so it ends; and a completion is reported exactly if it was due at
the beginning of the run and is not at its end. -/
theorem receiveCompletesOnce : Obligations.ReceiveCompletesOnce := by
  unfold Obligations.ReceiveCompletesOnce
  intro s inputs hinv hrxe hcb hadm hkinds hbrought
  obtain ⟨t, acts, ht, htinv, hrun⟩ := dispatches_advance hinv hcb hadm hkinds
  obtain ⟨-, -, htag, -⟩ := coupled_iff.1 hinv.coupled
  obtain ⟨-, -, htag', -⟩ := coupled_iff.1 htinv.coupled
  obtain ⟨hbusy, -, hmissing⟩ := hinv.coupled.i_g hrxe
  obtain ⟨hidle, hfull⟩ : t.rxBusy = false ∧ t.rxCnt = t.rxNum := hrun.rx.ended hrxe (by omega) hbrought
  refine ⟨t, acts, ht, hrun.out, hfull.trans hrun.rx.num, hrun.rx.num, hidle,
    hrun.reported (e := .receiveComplete) (by decide) ?_, hrun.reported (e := .transferComplete) (by decide) ?_,
    hrun.reported (e := .sendComplete) (by decide) ?_, fun hthree hpos hleft => ?_⟩
  · rw [inSync_eq]
    simp [State.due, dueOf, hbusy, hidle]
  · exact hrun.transfer_due htag' hidle
  · rw [inSync_eq]
    exact hrun.send_due htag
  · exact (hrun.tx.ended hthree (by omega) hleft).1

end Sys2Proof.Machine
end

section
/-! The failure codes (spec/60_exceptions.md R262). Every check of a command names the code it gives, so a command's codes are read
off its checks in their order, and a command without a check answers OK alone. -/

namespace Sys2Proof.Machine

/-- Every next state of a command, or of a part of one, has one of `codes` in RESULT. -/
def AnswersWith (codes : List (BitVec 8)) (o : Result) : Prop := ∀ t, o = .next t → t.result ∈ codes

section
variable {codes : List (BitVec 8)} {s : State}

theorem AnswersWith.fail {code : ResultCode} (hcode : code.bits ∈ codes := by decide) : AnswersWith codes (fail code s) := by
  rintro t ⟨⟩
  exact hcode

theorem AnswersWith.succeed {u : State} (hok : 0 ∈ codes := by decide) : AnswersWith codes (succeed u) := by
  rintro t ⟨⟩
  exact hok

/-- A start, which succeeds if the platform admits its accesses and requests (20_memory.md R66, R75). -/
theorem AnswersWith.start {o : Result} (hok : 0 ∈ codes := by decide) :
    AnswersWith codes (andThen o Machine.succeed) := by
  intro t ht
  obtain ⟨u, -, ⟨⟩⟩ := andThen_eq_next.1 ht
  exact hok

theorem AnswersWith.ite {c : Prop} [Decidable c] {o o' : Result} (h : AnswersWith codes o) (h' : AnswersWith codes o') :
    AnswersWith codes (if c then o else o') := by
  split
  · exact h
  · exact h'

/-- A check, and what comes after it. -/
theorem AnswersWith.check {c : Prop} [Decidable c] {code : ResultCode} {o : Result} (h : AnswersWith codes o)
    (hcode : code.bits ∈ codes := by decide) : AnswersWith codes (if c then Machine.fail code s else o) :=
  .ite (.fail hcode) h

variable (s)

theorem execInitialize_answers : AnswersWith (Expected.codes .initialise) (execInitialize s) := by
  refine .check ?_
  cases s.lc with
  | powered | configured => exact .fail
  | initialized | unpowered => exact .succeed

theorem execPowerControl_answers : AnswersWith (Expected.codes .powerControl) (execPowerControl s) := by
  unfold execPowerControl
  cases argPowerState s.arg0 with
  | none => exact .fail
  | some p =>
    cases p with
    | low => exact .fail
    | off => exact .ite .succeed .succeed
    | full => exact .check (.check .succeed)

/-- The answers of the solver (40_baud_solver.md R125, R127). -/
theorem commitBaud_answers (r : SolveResult) : AnswersWith (Expected.codes .configure) (commitBaud r s) := by
  cases r with
  | noDivisor | outOfTolerance => exact .fail
  | ok m d dv a => exact .succeed

theorem execConfigure_answers : AnswersWith (Expected.codes .configure) (execConfigure s) := by
  refine .check ?_
  cases modeOfBits (cfgMode (argCfg s.arg1)) with
  | none => exact .fail
  | some mode => exact .check <| .check <| .check <| .check <| .check <| commitBaud_answers s _

theorem execSetTxFill_answers : AnswersWith (Expected.codes .setTxFill) (execSetTxFill s) := .check (.check .succeed)

theorem execSend_answers : AnswersWith (Expected.codes .send) (execSend s) :=
  .check <| .check <| .check <| .ite .start .start

theorem execReceive_answers : AnswersWith (Expected.codes .receive) (execReceive s) :=
  .check <| .check <| .check <| .ite .start .start

theorem execTransfer_answers : AnswersWith (Expected.codes .transfer) (execTransfer s) :=
  .check <| .check <| .check <| .check .start

end

/-- The rows of R262's table; a dispatch has none. -/
theorem exec_command_answers {i : Instr} (s : State) (hi : isCommand i = true) :
    AnswersWith (Expected.codes i) (exec i s) := by
  cases i with
  | initialise => exact execInitialize_answers s
  | powerControl => exact execPowerControl_answers s
  | configure => exact execConfigure_answers s
  | setTxFill => exact execSetTxFill_answers s
  | send => exact execSend_answers s
  | receive => exact execReceive_answers s
  | transfer => exact execTransfer_answers s
  | uninitialize | getTxCount | getRxCount | getStatus | abortSend | abortReceive | abortTransfer => exact .succeed
  | _ => cases hi

/-- Settles O40: the codes of a command are those its checks name, and OK. -/
theorem failureCodes : Obligations.FailureCodes := by
  unfold Obligations.FailureCodes
  exact fun i s t hi ht => exec_command_answers s hi t ht

end Sys2Proof.Machine
end

section
/-! A dispatch while the block is not powered (spec/60_exceptions.md R280). The invariant leaves no side busy below CONFIGURED
(I-i), no transfer enable on for a side that is idle (I-f, I-g, I-h), and no modem enable on below POWERED (I-l): every gate of
every dispatch is closed. -/

namespace Sys2Proof.Machine

section
variable {s : State}

/-- I-i: a side is busy in a CONFIGURED state only. -/
theorem State.Inv.idle_of_not_configured (hinv : s.Inv) (hlc : s.lc ≠ .configured) :
    s.sendActive = false ∧ s.rxBusy = false :=
  ⟨eq_false_of_ne_true fun h => hlc (hinv.coupled.i_i (.inl h)),
    eq_false_of_ne_true fun h => hlc (hinv.coupled.i_i (.inr h))⟩

/-- I-f: THREE is on for a busy TX side only. -/
theorem State.Inv.three_off (hinv : s.Inv) (hidle : s.sendActive = false) : s.three = false :=
  eq_false_of_ne_true fun h => by
    obtain ⟨hbusy, -⟩ := hinv.coupled.i_f h
    exact absurd hbusy (ne_true_of_eq_false hidle)

/-- I-g: RXE is on for a busy RX side only. -/
theorem State.Inv.rxe_off (hinv : s.Inv) (hidle : s.rxBusy = false) : s.rxe = false :=
  eq_false_of_ne_true fun h => by
    obtain ⟨hbusy, -⟩ := hinv.coupled.i_g h
    exact absurd hbusy (ne_true_of_eq_false hidle)

/-- I-h: RLSE is on for a busy RX side only. -/
theorem State.Inv.rlse_off (hinv : s.Inv) (hidle : s.rxBusy = false) : s.rlse = false :=
  eq_false_of_ne_true fun h => absurd (hinv.coupled.i_h h) (ne_true_of_eq_false hidle)

/-- I-l: MSE is on in a powered state only. -/
theorem State.Inv.mse_off (hinv : s.Inv) (hlc : s.lc.isPowered = false) : s.mse = false :=
  eq_false_of_ne_true fun h => by
    obtain ⟨-, hpowered⟩ := hinv.coupled.i_l h
    exact absurd hpowered (ne_true_of_eq_false hlc)

/-- R221, R227, R233, R234: a dispatch does nothing where no side is busy and no enable is on. -/
theorem exec_dispatch_closed {i : Instr} (hi : isCommand i = false) (hsend : s.sendActive = false) (hrx : s.rxBusy = false)
    (hthree : s.three = false) (hrlse : s.rlse = false) (hrxe : s.rxe = false) (hmse : s.mse = false) :
    exec i s = .next s := by
  obtain ⟨hnone, h8, hA, hE, hthre, hrls, hrda, hcti, hms⟩ := ignoredInterrupts s
  obtain ⟨htxError, hrxError, htxOk, hrxOk⟩ := ignoredCompletions s
  cases i with
  | irqNone id => exact hnone id
  | irqThre => exact hthre hthree
  | irqRls => exact hrls hrlse
  | irqRda => exact hrda hrxe
  | irqCti => exact hcti hrxe
  | irqMs => exact hms hmse
  | irqReserved8 => exact h8
  | irqReservedA => exact hA
  | irqReservedE => exact hE
  | dmaTxOk => exact htxOk (.inr hsend)
  | dmaRxOk => exact hrxOk (.inr hrx)
  | dmaTxError => exact htxError
  | dmaRxError => exact hrxError
  | _ => cases hi

end

/-- Settles O54: below POWERED the invariant closes every gate. -/
theorem unpoweredDispatch : Obligations.UnpoweredDispatch := by
  unfold Obligations.UnpoweredDispatch
  intro i s hinv hlc hi
  have hunpowered : s.lc.isPowered = false := by obtain h | h := hlc <;> rw [h] <;> rfl
  have hunconfigured : s.lc ≠ .configured := by obtain h | h := hlc <;> rw [h] <;> decide
  obtain ⟨hsend, hrx⟩ := hinv.idle_of_not_configured hunconfigured
  exact exec_dispatch_closed hi hsend hrx (hinv.three_off hsend) (hinv.rlse_off hrx) (hinv.rxe_off hrx)
    (hinv.mse_off hunpowered)

end Sys2Proof.Machine
end

section
/-! The reset step (spec/70_reset_and_hazards.md R290, R291). A reset runs no instruction and samples no input: the request is
taken off the list, and the block is reset. -/

namespace Sys2Proof.Machine

/-- A reset request is served by RESET(), on the state without that request (R290). -/
theorem step_reset {s : State} {rest : List Request} (hp : s.pending = .reset :: rest) :
    step s = .next (resetBlock { s with pending := rest }) :=
  step_cons hp

/-- Settles O11: RESET() gives the state R290 lists, and the request taken is all else the step changes. -/
theorem resetStep : Obligations.ResetStep := by
  unfold Obligations.ResetStep
  intro s rest hp
  exact step_reset hp

end Sys2Proof.Machine
end

section
/-! The canonical form of the data memory (spec/20_memory.md R60, R67, R76; log 6). Whoever writes, the block in a drain or another
agent between its steps, writes byte by byte, and `writeByte_wf` says that a byte write keeps the form; everything else
leaves the memory as it is. -/

namespace Sys2Proof.Machine

section
variable {s t : State}

/-! The block's own writes: the stores of a drain (43_dispatcher.md R224, R225). -/

theorem drainChar_wf {c : Byte} (hwf : Memory.wf s.mem = true) (h : drainChar c s = .next t) : Memory.wf t.mem = true := by
  unfold drainChar at h
  split at h
  · obtain ⟨-, rfl⟩ := storeByte_next h
    exact writeByte_wf _ _ hwf
  · cases h
    exact hwf

theorem drainChars_wf : ∀ {cs : List Byte} {s : State}, Memory.wf s.mem = true → drainChars cs s = .next t →
    Memory.wf t.mem = true := by
  intro cs
  induction cs with
  | nil => intro s hwf h; cases h; exact hwf
  | cons c cs ih =>
    intro s hwf h
    obtain ⟨u, hu, h⟩ := andThen_eq_next.1 h
    have hstored : Memory.wf u.mem = true := drainChar_wf hwf hu
    exact ih (s := { u with rxCnt := u.rxCnt + 1 }) hstored h

/-- Once its characters are stored a drain touches the memory no more. -/
theorem drain_wf {r : State × EventMask} (hwf : Memory.wf s.mem = true) (h : drain s = .next r) :
    Memory.wf r.1.mem = true := by
  obtain ⟨u, hu, h⟩ := andThen_eq_next.1 h
  have hstored : Memory.wf u.mem = true := drainChars_wf hwf hu
  dsimp only at h
  split at h
  · cases h
    rw [complete_mem]
    exact hstored
  · cases h
    exact hstored

/-- RDA and CTI are gated by RXE, and DELIVER touches the output alone (R224, R225, R229). -/
theorem gated_wf {c : Prop} [Decidable c] {o : Answer (State × EventMask)} (hwf : Memory.wf s.mem = true)
    (ho : ∀ r, o = .next r → Memory.wf r.1.mem = true) (h : dispatch (if c then o else ignore s) = .next t) :
    Memory.wf t.mem = true := by
  by_cases hc : c
  · rw [gated_open hc] at h
    obtain ⟨u, m, hu, rfl⟩ := dispatch_eq_next.1 h
    rw [deliver_eq]
    exact ho _ hu
  · rw [gated_closed hc] at h
    cases h
    exact hwf

/-- Every instruction: the drains write byte by byte, and no other writes the memory (R60, R62). -/
theorem exec_wf {i : Instr} (hwf : Memory.wf s.mem = true) (h : exec i s = .next t) : Memory.wf t.mem = true := by
  by_cases hrda : i = .irqRda
  · subst hrda
    exact gated_wf hwf (fun _ => drain_wf hwf) h
  by_cases hcti : i = .irqCti
  · subst hcti
    refine gated_wf hwf (fun r hr => ?_) h
    obtain ⟨q, hq, ⟨⟩⟩ := andThen_eq_next.1 hr
    exact drain_wf (r := q) hwf hq
  · rw [(onlyDrainsWriteMemory i s t hrda hcti h).1]
    exact hwf

/-! The requests that run no instruction (10_state.md R39, R47, R71). -/

theorem windowWrite_mem (s : State) (off : BitVec 7) (w : Word) : (s.windowWrite off w).mem = s.mem := by
  unfold State.windowWrite
  split <;> rfl

theorem externalRead_mem (agent : MemAgent) (a : Addr) (s : State) : (externalRead agent a s).mem = s.mem := by
  cases agent with
  | engine =>
    show (s.touchRx a).mem = s.mem
    rw [touchRx_eq]
  | host =>
    obtain ⟨v, d, u, h, -⟩ := externalRead_host s a
    rw [h]

theorem externalWrite_wf (agent : MemAgent) (a : Addr) (v : Byte) (hwf : Memory.wf s.mem = true) :
    Memory.wf (externalWrite agent a v s).mem = true := by
  obtain ⟨m, old, u, d, h, hm, -⟩ := externalWrite_spec agent a v s
  rw [h]
  show Memory.wf m = true
  rw [hm]
  split
  · exact hwf
  · exact Memory.wf_write a.isLt hwf

/-- Of the requests that run no instruction, only another agent's write writes the memory. -/
theorem serve_wf {r : Request} (hwf : Memory.wf s.mem = true) (hi : instrOf r = none) (h : serve r s = .next t) :
    Memory.wf t.mem = true := by
  obtain ⟨off, bytes, w, p, -, -, rfl⟩ | ⟨off, bytes, w, p, -, -, rfl⟩ | ⟨off, bytes, -, rfl⟩ | ⟨-, rfl⟩ |
    ⟨agent, a, v, -, rfl⟩ | ⟨agent, a, -, rfl⟩ := serve_cases h hi
  · exact hwf
  · rw [windowWrite_mem]
    exact hwf
  · exact hwf
  · exact hwf
  · exact externalWrite_wf agent a v hwf
  · rw [externalRead_mem]
    exact hwf

theorem withInputs_mem (s : State) (r : Request) : (s.withInputs r).mem = s.mem := by
  cases r <;> rfl

end

/-- Settles O48: a step runs an instruction or serves a request, and each keeps the form. -/
theorem memoryCanonical : Obligations.MemoryCanonical := by
  unfold Obligations.MemoryCanonical
  refine ⟨Memory.wf_nil, fun s t hwf hstep => ?_⟩
  obtain ⟨r, rest, -, ⟨i, -, hexec⟩ | ⟨hi, hserve⟩⟩ := step_cases hstep
  · refine exec_wf ?_ hexec
    rw [withInputs_mem]
    exact hwf
  · exact serve_wf (s := { s with pending := rest }) hwf hi hserve

end Sys2Proof.Machine
end

section
/-! I-j as spec/10_state.md R44 writes it fails (log 15). A synchronous RECEIVE sets TX_SRC = FILL (42_transfer.md R181), nothing
takes it back when the transfer ends, and it is not among what CONFIGURE writes (41_lifecycle.md R144). -/

namespace Sys2Proof.Machine

/-- A sync master after a RECEIVE has ended: idle, with TX_SRC = FILL left over. What the host asks for next is a CONFIGURE to
asynchronous 8N1 at 9600 baud from a 12 MHz clock, the rate of R128's example. -/
def reconfiguring : State :=
  { State.reset with
    params :=
      { (default : Params) with
        cap := { (default : Cap) with syncMaster := true }
        tolPct := Config.tolPctDefault
        clockCfgOk := Config.clockCfgDefault }
    lc := .configured
    cfg := 0x019
    div := 4
    mulval := 8
    divaddval := 5
    baud := 115384
    txSrc := .fill
    arg0 := 9600
    arg1 := 0x018
    pending := [.hostWrite 0x00 4 0x04 12000000] }

/-- No side is busy and no interrupt enabled, so that only the ranges of the configuration ask for a look. -/
theorem reconfiguring_inv : reconfiguring.Inv := by
  refine ⟨⟨?_, ?_, ?_, ?_, ⟨.syncMaster, rfl, rfl⟩, ?_, ?_, resultCode_le .ok⟩, coupled_iff.2 ⟨?_, ?_, .of_none rfl, ?_⟩⟩
  case refine_7 => exact .of_idle (Nat.le_refl 0) BitVec.getLsbD_zero rfl
  case refine_8 => exact .of_idle (Nat.le_refl 0) BitVec.getLsbD_zero BitVec.getLsbD_zero rfl
  case refine_9 => exact .of_disabled BitVec.getLsbD_zero
  all_goals decide +kernel

theorem reconfiguring_fillOnlyInSync : reconfiguring.FillOnlyInSync := ⟨fun _ => rfl, fun _ => rfl, fun _ => rfl⟩

/-- The step runs CONFIGURE, which succeeds and leaves TX_SRC as it was. -/
theorem step_reconfiguring : ∃ t, step reconfiguring = .next t ∧ t.txSrc = .fill ∧ t.sync = false := by
  obtain ⟨hcommand, -, -⟩ := stepRunsInstruction reconfiguring []
  refine ⟨_, (hcommand 0x04 12000000 .configure rfl rfl).trans (configureEffect _), ?_⟩
  decide +kernel

/-- Refutes O51: the CONFIGURE of `reconfiguring` leaves TX_SRC = FILL in an asynchronous mode. -/
theorem not_fillOnlyInSyncAsWritten : ¬ Obligations.FillOnlyInSyncAsWritten := by
  unfold Obligations.FillOnlyInSyncAsWritten
  intro h
  obtain ⟨t, hstep, hsrc, hasync⟩ := step_reconfiguring
  have hsync : t.sync = true := (h reconfiguring t reconfiguring_inv reconfiguring_fillOnlyInSync hstep).tx hsrc
  exact Bool.false_ne_true (hasync.symm.trans hsync)

end Sys2Proof.Machine
end
